-- ==== Sys2Proof/Word.lean ====
section
/-! DEFINITION. The two widths of the machine (spec/00_scope.md R4: DATA_W = 8, ADDR_W = 16). Every register holds an unsigned
8-bit value; SP, PC and addresses are unsigned 16-bit values that wrap modulo 65536 (R10, R14, R15, R25 of 10_state.md). -/

namespace Sys2Proof

/-- `u8`: an unsigned 8-bit value (R10). -/
abbrev Byte := BitVec 8

/-- `u16`: an unsigned 16-bit value; its arithmetic is modulo 65536 (R14, R15, R45). -/
abbrev Word := BitVec 16

end Sys2Proof
end

