-- ==== Sys2Proof/Machine/Bytes.lean ====
section
/-! DEFINITION. Byte order: the halves of a word and the word of two bytes (spec/00_scope.md 7.1; R44 of 20_memory.md). -/

namespace Sys2Proof

/-- `v[15:8]`. -/
def hiByte (v : Word) : Byte := v.extractLsb' 8 8

/-- `v[7:0]`. -/
def loByte (v : Word) : Byte := v.extractLsb' 0 8

/-- `{hi, lo}`: the 16-bit value `hi * 256 + lo`. -/
def joinBytes (hi lo : Byte) : Word := hi ++ lo

/-- A 16-bit immediate or address as the instruction holds it: low byte first (R44, R76). -/
def wordBytes (v : Word) : List Byte := [loByte v, hiByte v]

end Sys2Proof
end

