-- ==== Sys2Proof/Config.lean ====
section
/-! DEFINITION. What the spec says this hardware fixes (spec/00_scope.md R4) and the values the model names where the spec gives
none. The widths are the types of Word.lean; `NREG` and `NFLAG` are the fields of State; the status-word layout is
`packPSW`/`unpackPSW` (Machine/Flags.lean); `ADDR_WRAP` is the arithmetic of `Word`; `EI_DELAY` = 0 is `execEi`;
`HAS_PORT_HOOK`, `HAS_TRAP_HOOK` and `HAS_BOUNDS_CHECK` are false, so nothing of the model mentions a hook or a bounds check. -/

namespace Sys2Proof.Config

/-- `MEM_BYTES`: the size of the memory behind the port (R4, R22, R40; D7). -/
def memBytes : Nat := 65536

/-- `NVEC`: how many RST and interrupt vectors there are (R4). -/
def vectorCount : Nat := 8

/-- The distance between two vectors: vector `n` is at `8 * n` (R49). -/
def vectorStride : Nat := 8

/-- `UNIMPL_OPCODES`: OUT, IN and the five undocumented opcodes (R4, R80; D1). -/
def unimplOpcodes : List Byte := [0xD3, 0xDB, 0xCB, 0xD9, 0xDD, 0xED, 0xFD]

/-- `ALT_NOP_OPCODES`: the alternate encodings of NOP (R4, R81; D1). -/
def altNopOpcodes : List Byte := [0x08, 0x10, 0x18, 0x20, 0x28, 0x30, 0x38]

/-- `AC_LOADED_BY_POP_PSW`: POP PSW loads AC from bit 4 of the popped byte (R4, R19; D4). -/
def acLoadedByPopPSW : Bool := true

/-- `RESET_STATE`, PC: 0x0000 (R24, R280; D12). -/
def resetPC : Word := 0x0000

/-- `RESET_STATE`, INTE: false (R24, R280; D12). -/
def resetINTE : Bool := false

/-- `RESET_STATE`, AC: false (R24, R280; D12). -/
def resetAC : Bool := false

/-- DESIGN CHOICE, unsafe (log 1): what A, B, C, D, E, H and L hold in `State.reset`; the spec gives no value (R24). -/
def powerOnByte : Byte := 0x00

/-- DESIGN CHOICE, unsafe (log 1): what SP holds in `State.reset`; the spec gives no value (R24). -/
def powerOnSP : Word := 0x0000

/-- DESIGN CHOICE, unsafe (log 1): what Z, S, P and CY hold in `State.reset`; the spec gives no value (R24). -/
def powerOnFlag : Bool := false

/-- DESIGN CHOICE, unsafe (log 2): what an unlisted byte of memory reads as; the spec gives no power-up contents (K-15). -/
def unlistedByte : Byte := 0x00

end Sys2Proof.Config
end

