-- ==== Sys2Proof/Syntax.lean ====
section
/-! DEFINITION. The instruction syntax: `Instr`, one constructor per row of spec/opcode_table.json (one per opcode byte, R79 of
30_encoding.md), and `Asm`, the assembler reading of an instruction with its operands as operands (R84). -/

namespace Sys2Proof

/-- The seven 8-bit registers (R10). -/
inductive Reg where
  | b | c | d | e | h | l | a
  deriving DecidableEq, Repr

/-- An 8-bit operand selected by a 3-bit code: a register, or `M`, the memory byte at HL (R11). -/
inductive Operand where
  | r (reg : Reg)
  | m
  deriving DecidableEq, Repr

/-- The 16-bit operands of the assembler: B (the pair BC), D (DE), H (HL), SP, and PSW (A and the status word) (R74, R84). -/
inductive PairName where
  | bc | de | hl | sp | psw
  deriving DecidableEq, Repr

/-- The eight ALU operations, in the order of their 3-bit numbers (R78). -/
inductive AluOp where
  | add | adc | sub | sbb | ana | xra | ora | cmp
  deriving DecidableEq, Repr

/-- The eight conditions, in the order of their 3-bit codes: NZ, Z, NC, C, PO, PE, P (plus), M (minus) (R75). -/
inductive Cond where
  | nz | z | nc | c | po | pe | p | m
  deriving DecidableEq, Repr

/-- An instruction as R84 writes it: mnemonic and operands. `alu` stands for ADD, ADC, SUB, SBB, ANA, XRA, ORA, CMP and
`aluI` for ADI, ACI, SUI, SBI, ANI, XRI, ORI, CPI; `jcc`, `ccc` and `rcc` for the conditional jumps, calls and returns;
`unimplemented` for an opcode byte without a defined case (R80). Not every term names an instruction: WellFormed.lean. -/
inductive Asm where
  | mov (dst src : Operand)
  | mvi (dst : Operand) (d8 : Byte)
  | lxi (rp : PairName) (d16 : Word)
  | lda (a16 : Word)
  | sta (a16 : Word)
  | lhld (a16 : Word)
  | shld (a16 : Word)
  | ldax (rp : PairName)
  | stax (rp : PairName)
  | xchg
  | alu (op : AluOp) (src : Operand)
  | aluI (op : AluOp) (d8 : Byte)
  | inr (dst : Operand)
  | dcr (dst : Operand)
  | inx (rp : PairName)
  | dcx (rp : PairName)
  | dad (rp : PairName)
  | daa
  | rlc
  | rrc
  | ral
  | rar
  | cma
  | cmc
  | stc
  | jmp (a16 : Word)
  | jcc (cond : Cond) (a16 : Word)
  | call (a16 : Word)
  | ccc (cond : Cond) (a16 : Word)
  | ret
  | rcc (cond : Cond)
  | rst (n : Nat)
  | pchl
  | push (rp : PairName)
  | pop (rp : PairName)
  | xthl
  | sphl
  | ei
  | di
  | hlt
  | nop
  | unimplemented (op : Byte)
  deriving DecidableEq, Repr

/-- The 256 rows of spec/opcode_table.json: the rows with operand bytes first, then the others, each in the order of the
opcode byte (Lean allows a constructor with fields only among the first ones of so long a list). `d8` is the immediate byte of a 2-byte
instruction, `d16` and `a16` the immediate word and the address of a 3-byte one (R71, R76). `nop08` to `nop38` are the
alternate encodings of NOP (R81); `inPort` and `outPort` are IN and OUT; `unimplCB` to `unimplFD` are the five opcodes
without a defined case (R80). -/
inductive Instr where
  -- the rows with an operand byte or word
  | lxiB (d16 : Word)
  | mviB (d8 : Byte)
  | mviC (d8 : Byte)
  | lxiD (d16 : Word)
  | mviD (d8 : Byte)
  | mviE (d8 : Byte)
  | lxiH (d16 : Word)
  | shld (a16 : Word)
  | mviH (d8 : Byte)
  | lhld (a16 : Word)
  | mviL (d8 : Byte)
  | lxiSP (d16 : Word)
  | sta (a16 : Word)
  | mviM (d8 : Byte)
  | lda (a16 : Word)
  | mviA (d8 : Byte)
  | jnz (a16 : Word)
  | jmp (a16 : Word)
  | cnz (a16 : Word)
  | adi (d8 : Byte)
  | jz (a16 : Word)
  | cz (a16 : Word)
  | call (a16 : Word)
  | aci (d8 : Byte)
  | jnc (a16 : Word)
  | cnc (a16 : Word)
  | sui (d8 : Byte)
  | jc (a16 : Word)
  | cc (a16 : Word)
  | sbi (d8 : Byte)
  | jpo (a16 : Word)
  | cpo (a16 : Word)
  | ani (d8 : Byte)
  | jpe (a16 : Word)
  | cpe (a16 : Word)
  | xri (d8 : Byte)
  | jp (a16 : Word)
  | cp (a16 : Word)
  | ori (d8 : Byte)
  | jm (a16 : Word)
  | cm (a16 : Word)
  | cpi (d8 : Byte)
  -- 0x0x
  | nop
  | staxB
  | inxB
  | inrB
  | dcrB
  | rlc
  | nop08
  | dadB
  | ldaxB
  | dcxB
  | inrC
  | dcrC
  | rrc
  -- 0x1x
  | nop10
  | staxD
  | inxD
  | inrD
  | dcrD
  | ral
  | nop18
  | dadD
  | ldaxD
  | dcxD
  | inrE
  | dcrE
  | rar
  -- 0x2x
  | nop20
  | inxH
  | inrH
  | dcrH
  | daa
  | nop28
  | dadH
  | dcxH
  | inrL
  | dcrL
  | cma
  -- 0x3x
  | nop30
  | inxSP
  | inrM
  | dcrM
  | stc
  | nop38
  | dadSP
  | dcxSP
  | inrA
  | dcrA
  | cmc
  -- 0x4x
  | movBB
  | movBC
  | movBD
  | movBE
  | movBH
  | movBL
  | movBM
  | movBA
  | movCB
  | movCC
  | movCD
  | movCE
  | movCH
  | movCL
  | movCM
  | movCA
  -- 0x5x
  | movDB
  | movDC
  | movDD
  | movDE
  | movDH
  | movDL
  | movDM
  | movDA
  | movEB
  | movEC
  | movED
  | movEE
  | movEH
  | movEL
  | movEM
  | movEA
  -- 0x6x
  | movHB
  | movHC
  | movHD
  | movHE
  | movHH
  | movHL
  | movHM
  | movHA
  | movLB
  | movLC
  | movLD
  | movLE
  | movLH
  | movLL
  | movLM
  | movLA
  -- 0x7x
  | movMB
  | movMC
  | movMD
  | movME
  | movMH
  | movML
  | hlt
  | movMA
  | movAB
  | movAC
  | movAD
  | movAE
  | movAH
  | movAL
  | movAM
  | movAA
  -- 0x8x
  | addB
  | addC
  | addD
  | addE
  | addH
  | addL
  | addM
  | addA
  | adcB
  | adcC
  | adcD
  | adcE
  | adcH
  | adcL
  | adcM
  | adcA
  -- 0x9x
  | subB
  | subC
  | subD
  | subE
  | subH
  | subL
  | subM
  | subA
  | sbbB
  | sbbC
  | sbbD
  | sbbE
  | sbbH
  | sbbL
  | sbbM
  | sbbA
  -- 0xAx
  | anaB
  | anaC
  | anaD
  | anaE
  | anaH
  | anaL
  | anaM
  | anaA
  | xraB
  | xraC
  | xraD
  | xraE
  | xraH
  | xraL
  | xraM
  | xraA
  -- 0xBx
  | oraB
  | oraC
  | oraD
  | oraE
  | oraH
  | oraL
  | oraM
  | oraA
  | cmpB
  | cmpC
  | cmpD
  | cmpE
  | cmpH
  | cmpL
  | cmpM
  | cmpA
  -- 0xCx
  | rnz
  | popB
  | pushB
  | rst0
  | rz
  | ret
  | unimplCB
  | rst1
  -- 0xDx
  | rnc
  | popD
  | outPort
  | pushD
  | rst2
  | rc
  | unimplD9
  | inPort
  | unimplDD
  | rst3
  -- 0xEx
  | rpo
  | popH
  | xthl
  | pushH
  | rst4
  | rpe
  | pchl
  | xchg
  | unimplED
  | rst5
  -- 0xFx
  | rp
  | popPSW
  | di
  | pushPSW
  | rst6
  | rm
  | sphl
  | ei
  | unimplFD
  | rst7
  deriving DecidableEq, Repr

end Sys2Proof
end

