-- ==== Sys2Proof/Machine/Asm.lean ====
section
/-! DEFINITION. The codes of the operand fields (spec/10_state.md R11; spec/30_encoding.md R74, R75, R78) and the assembler reading
of every row of spec/opcode_table.json (R84), from the table's source_mnemonic and source_fields. -/

namespace Sys2Proof

/-- The 3-bit register codes, 110 being the memory operand (R11). -/
def Reg.code : Reg → BitVec 3
  | .b => 0b000
  | .c => 0b001
  | .d => 0b010
  | .e => 0b011
  | .h => 0b100
  | .l => 0b101
  | .a => 0b111

/-- The 3-bit operand codes (R11). -/
def Operand.code : Operand → BitVec 3
  | .r reg => reg.code
  | .m => 0b110

/-- The 2-bit pair codes; 11 is SP in LXI, DAD, INX, DCX and PSW in PUSH, POP (R74). -/
def PairName.code : PairName → BitVec 2
  | .bc => 0b00
  | .de => 0b01
  | .hl => 0b10
  | .sp => 0b11
  | .psw => 0b11

/-- The 3-bit condition codes (R75). -/
def Cond.code : Cond → BitVec 3
  | .nz => 0b000
  | .z => 0b001
  | .nc => 0b010
  | .c => 0b011
  | .po => 0b100
  | .pe => 0b101
  | .p => 0b110
  | .m => 0b111

/-- The 3-bit ALU operation numbers (R78). -/
def AluOp.code : AluOp → BitVec 3
  | .add => 0b000
  | .adc => 0b001
  | .sub => 0b010
  | .sbb => 0b011
  | .ana => 0b100
  | .xra => 0b101
  | .ora => 0b110
  | .cmp => 0b111

/-- The assembler reading of each instruction (R84). -/
def Instr.asm : Instr → Asm
  | .nop => .nop
  | .lxiB d16 => .lxi .bc d16
  | .staxB => .stax .bc
  | .inxB => .inx .bc
  | .inrB => .inr (.r .b)
  | .dcrB => .dcr (.r .b)
  | .mviB d8 => .mvi (.r .b) d8
  | .rlc => .rlc
  | .nop08 => .nop
  | .dadB => .dad .bc
  | .ldaxB => .ldax .bc
  | .dcxB => .dcx .bc
  | .inrC => .inr (.r .c)
  | .dcrC => .dcr (.r .c)
  | .mviC d8 => .mvi (.r .c) d8
  | .rrc => .rrc
  | .nop10 => .nop
  | .lxiD d16 => .lxi .de d16
  | .staxD => .stax .de
  | .inxD => .inx .de
  | .inrD => .inr (.r .d)
  | .dcrD => .dcr (.r .d)
  | .mviD d8 => .mvi (.r .d) d8
  | .ral => .ral
  | .nop18 => .nop
  | .dadD => .dad .de
  | .ldaxD => .ldax .de
  | .dcxD => .dcx .de
  | .inrE => .inr (.r .e)
  | .dcrE => .dcr (.r .e)
  | .mviE d8 => .mvi (.r .e) d8
  | .rar => .rar
  | .nop20 => .nop
  | .lxiH d16 => .lxi .hl d16
  | .shld a16 => .shld a16
  | .inxH => .inx .hl
  | .inrH => .inr (.r .h)
  | .dcrH => .dcr (.r .h)
  | .mviH d8 => .mvi (.r .h) d8
  | .daa => .daa
  | .nop28 => .nop
  | .dadH => .dad .hl
  | .lhld a16 => .lhld a16
  | .dcxH => .dcx .hl
  | .inrL => .inr (.r .l)
  | .dcrL => .dcr (.r .l)
  | .mviL d8 => .mvi (.r .l) d8
  | .cma => .cma
  | .nop30 => .nop
  | .lxiSP d16 => .lxi .sp d16
  | .sta a16 => .sta a16
  | .inxSP => .inx .sp
  | .inrM => .inr .m
  | .dcrM => .dcr .m
  | .mviM d8 => .mvi .m d8
  | .stc => .stc
  | .nop38 => .nop
  | .dadSP => .dad .sp
  | .lda a16 => .lda a16
  | .dcxSP => .dcx .sp
  | .inrA => .inr (.r .a)
  | .dcrA => .dcr (.r .a)
  | .mviA d8 => .mvi (.r .a) d8
  | .cmc => .cmc
  | .movBB => .mov (.r .b) (.r .b)
  | .movBC => .mov (.r .b) (.r .c)
  | .movBD => .mov (.r .b) (.r .d)
  | .movBE => .mov (.r .b) (.r .e)
  | .movBH => .mov (.r .b) (.r .h)
  | .movBL => .mov (.r .b) (.r .l)
  | .movBM => .mov (.r .b) .m
  | .movBA => .mov (.r .b) (.r .a)
  | .movCB => .mov (.r .c) (.r .b)
  | .movCC => .mov (.r .c) (.r .c)
  | .movCD => .mov (.r .c) (.r .d)
  | .movCE => .mov (.r .c) (.r .e)
  | .movCH => .mov (.r .c) (.r .h)
  | .movCL => .mov (.r .c) (.r .l)
  | .movCM => .mov (.r .c) .m
  | .movCA => .mov (.r .c) (.r .a)
  | .movDB => .mov (.r .d) (.r .b)
  | .movDC => .mov (.r .d) (.r .c)
  | .movDD => .mov (.r .d) (.r .d)
  | .movDE => .mov (.r .d) (.r .e)
  | .movDH => .mov (.r .d) (.r .h)
  | .movDL => .mov (.r .d) (.r .l)
  | .movDM => .mov (.r .d) .m
  | .movDA => .mov (.r .d) (.r .a)
  | .movEB => .mov (.r .e) (.r .b)
  | .movEC => .mov (.r .e) (.r .c)
  | .movED => .mov (.r .e) (.r .d)
  | .movEE => .mov (.r .e) (.r .e)
  | .movEH => .mov (.r .e) (.r .h)
  | .movEL => .mov (.r .e) (.r .l)
  | .movEM => .mov (.r .e) .m
  | .movEA => .mov (.r .e) (.r .a)
  | .movHB => .mov (.r .h) (.r .b)
  | .movHC => .mov (.r .h) (.r .c)
  | .movHD => .mov (.r .h) (.r .d)
  | .movHE => .mov (.r .h) (.r .e)
  | .movHH => .mov (.r .h) (.r .h)
  | .movHL => .mov (.r .h) (.r .l)
  | .movHM => .mov (.r .h) .m
  | .movHA => .mov (.r .h) (.r .a)
  | .movLB => .mov (.r .l) (.r .b)
  | .movLC => .mov (.r .l) (.r .c)
  | .movLD => .mov (.r .l) (.r .d)
  | .movLE => .mov (.r .l) (.r .e)
  | .movLH => .mov (.r .l) (.r .h)
  | .movLL => .mov (.r .l) (.r .l)
  | .movLM => .mov (.r .l) .m
  | .movLA => .mov (.r .l) (.r .a)
  | .movMB => .mov .m (.r .b)
  | .movMC => .mov .m (.r .c)
  | .movMD => .mov .m (.r .d)
  | .movME => .mov .m (.r .e)
  | .movMH => .mov .m (.r .h)
  | .movML => .mov .m (.r .l)
  | .hlt => .hlt
  | .movMA => .mov .m (.r .a)
  | .movAB => .mov (.r .a) (.r .b)
  | .movAC => .mov (.r .a) (.r .c)
  | .movAD => .mov (.r .a) (.r .d)
  | .movAE => .mov (.r .a) (.r .e)
  | .movAH => .mov (.r .a) (.r .h)
  | .movAL => .mov (.r .a) (.r .l)
  | .movAM => .mov (.r .a) .m
  | .movAA => .mov (.r .a) (.r .a)
  | .addB => .alu .add (.r .b)
  | .addC => .alu .add (.r .c)
  | .addD => .alu .add (.r .d)
  | .addE => .alu .add (.r .e)
  | .addH => .alu .add (.r .h)
  | .addL => .alu .add (.r .l)
  | .addM => .alu .add .m
  | .addA => .alu .add (.r .a)
  | .adcB => .alu .adc (.r .b)
  | .adcC => .alu .adc (.r .c)
  | .adcD => .alu .adc (.r .d)
  | .adcE => .alu .adc (.r .e)
  | .adcH => .alu .adc (.r .h)
  | .adcL => .alu .adc (.r .l)
  | .adcM => .alu .adc .m
  | .adcA => .alu .adc (.r .a)
  | .subB => .alu .sub (.r .b)
  | .subC => .alu .sub (.r .c)
  | .subD => .alu .sub (.r .d)
  | .subE => .alu .sub (.r .e)
  | .subH => .alu .sub (.r .h)
  | .subL => .alu .sub (.r .l)
  | .subM => .alu .sub .m
  | .subA => .alu .sub (.r .a)
  | .sbbB => .alu .sbb (.r .b)
  | .sbbC => .alu .sbb (.r .c)
  | .sbbD => .alu .sbb (.r .d)
  | .sbbE => .alu .sbb (.r .e)
  | .sbbH => .alu .sbb (.r .h)
  | .sbbL => .alu .sbb (.r .l)
  | .sbbM => .alu .sbb .m
  | .sbbA => .alu .sbb (.r .a)
  | .anaB => .alu .ana (.r .b)
  | .anaC => .alu .ana (.r .c)
  | .anaD => .alu .ana (.r .d)
  | .anaE => .alu .ana (.r .e)
  | .anaH => .alu .ana (.r .h)
  | .anaL => .alu .ana (.r .l)
  | .anaM => .alu .ana .m
  | .anaA => .alu .ana (.r .a)
  | .xraB => .alu .xra (.r .b)
  | .xraC => .alu .xra (.r .c)
  | .xraD => .alu .xra (.r .d)
  | .xraE => .alu .xra (.r .e)
  | .xraH => .alu .xra (.r .h)
  | .xraL => .alu .xra (.r .l)
  | .xraM => .alu .xra .m
  | .xraA => .alu .xra (.r .a)
  | .oraB => .alu .ora (.r .b)
  | .oraC => .alu .ora (.r .c)
  | .oraD => .alu .ora (.r .d)
  | .oraE => .alu .ora (.r .e)
  | .oraH => .alu .ora (.r .h)
  | .oraL => .alu .ora (.r .l)
  | .oraM => .alu .ora .m
  | .oraA => .alu .ora (.r .a)
  | .cmpB => .alu .cmp (.r .b)
  | .cmpC => .alu .cmp (.r .c)
  | .cmpD => .alu .cmp (.r .d)
  | .cmpE => .alu .cmp (.r .e)
  | .cmpH => .alu .cmp (.r .h)
  | .cmpL => .alu .cmp (.r .l)
  | .cmpM => .alu .cmp .m
  | .cmpA => .alu .cmp (.r .a)
  | .rnz => .rcc .nz
  | .popB => .pop .bc
  | .jnz a16 => .jcc .nz a16
  | .jmp a16 => .jmp a16
  | .cnz a16 => .ccc .nz a16
  | .pushB => .push .bc
  | .adi d8 => .aluI .add d8
  | .rst0 => .rst 0
  | .rz => .rcc .z
  | .ret => .ret
  | .jz a16 => .jcc .z a16
  | .unimplCB => .unimplemented 0xCB
  | .cz a16 => .ccc .z a16
  | .call a16 => .call a16
  | .aci d8 => .aluI .adc d8
  | .rst1 => .rst 1
  | .rnc => .rcc .nc
  | .popD => .pop .de
  | .jnc a16 => .jcc .nc a16
  | .outPort => .unimplemented 0xD3
  | .cnc a16 => .ccc .nc a16
  | .pushD => .push .de
  | .sui d8 => .aluI .sub d8
  | .rst2 => .rst 2
  | .rc => .rcc .c
  | .unimplD9 => .unimplemented 0xD9
  | .jc a16 => .jcc .c a16
  | .inPort => .unimplemented 0xDB
  | .cc a16 => .ccc .c a16
  | .unimplDD => .unimplemented 0xDD
  | .sbi d8 => .aluI .sbb d8
  | .rst3 => .rst 3
  | .rpo => .rcc .po
  | .popH => .pop .hl
  | .jpo a16 => .jcc .po a16
  | .xthl => .xthl
  | .cpo a16 => .ccc .po a16
  | .pushH => .push .hl
  | .ani d8 => .aluI .ana d8
  | .rst4 => .rst 4
  | .rpe => .rcc .pe
  | .pchl => .pchl
  | .jpe a16 => .jcc .pe a16
  | .xchg => .xchg
  | .cpe a16 => .ccc .pe a16
  | .unimplED => .unimplemented 0xED
  | .xri d8 => .aluI .xra d8
  | .rst5 => .rst 5
  | .rp => .rcc .p
  | .popPSW => .pop .psw
  | .jp a16 => .jcc .p a16
  | .di => .di
  | .cp a16 => .ccc .p a16
  | .pushPSW => .push .psw
  | .ori d8 => .aluI .ora d8
  | .rst6 => .rst 6
  | .rm => .rcc .m
  | .sphl => .sphl
  | .jm a16 => .jcc .m a16
  | .ei => .ei
  | .cm a16 => .ccc .m a16
  | .unimplFD => .unimplemented 0xFD
  | .cpi d8 => .aluI .cmp d8
  | .rst7 => .rst 7
end Sys2Proof
end

