-- ==== Sys2Proof/WellFormed.lean ====
section
/-! DEFINITION. Which assembler terms name an instruction (spec/30_encoding.md R84, with R83, R74, R140, R141, R220, R206, R80). A
term of `Instr` cannot be ill-formed: each operand field has exactly the width the encoding gives it, and "any 3-bit field is
always valid" (R72); `Instr.wellFormed` says so through the instruction's assembler reading. -/

namespace Sys2Proof

/-- LXI, INX, DCX and DAD take B, D, H or SP (R74, R84). -/
def PairName.notPSW : PairName → Bool
  | .psw => false
  | _ => true

/-- PUSH and POP take B, D, H or PSW (R74, R84). -/
def PairName.notSP : PairName → Bool
  | .sp => false
  | _ => true

/-- LDAX and STAX take B or D only (R84, R140, R141). -/
def PairName.isBCorDE : PairName → Bool
  | .bc => true
  | .de => true
  | _ => false

/-- The term names an instruction of the table. "MOV M,M" does not (its slot is HLT, R83); RST takes 0 to 7 (R84). -/
def Asm.wellFormed : Asm → Bool
  | .mov dst src => !(decide (dst = .m) && decide (src = .m))
  | .lxi rp _ => rp.notPSW
  | .inx rp => rp.notPSW
  | .dcx rp => rp.notPSW
  | .dad rp => rp.notPSW
  | .ldax rp => rp.isBCorDE
  | .stax rp => rp.isBCorDE
  | .push rp => rp.notSP
  | .pop rp => rp.notSP
  | .rst n => decide (n < Config.vectorCount)
  | .unimplemented op => decide (op ∈ Config.unimplOpcodes)
  | _ => true

/-- Every instruction's reading is one the assembler accepts. -/
def Instr.wellFormed (i : Instr) : Bool := i.asm.wellFormed

end Sys2Proof
end

