-- ==== Sys2Proof/Decode.lean ====
section
/-! DEFINITION. Decoding and encoding (spec/30_encoding.md R70 to R83): the opcode map as 16 rows of 16 cells, one per value of the
opcode byte (R78, R79), the decoder of a list of bytes, and the encoder. -/

namespace Sys2Proof

/-- The formats of R71, each with the instruction it builds: I0 is the opcode alone, I1 takes the byte d8, I2 takes a word
(d16 or a16); an unimplemented opcode has no format and only its first byte is read (R80). -/
inductive Form where
  | i0 (i : Instr)
  | i1 (mk : Byte → Instr)
  | i2 (mk : Word → Instr)
  | unimpl (i : Instr)

/-- `Len`: how many bytes the instruction has (R70, R71, R77); of an unimplemented opcode one byte is read (R80). -/
def Form.length : Form → Nat
  | .i0 _ => 1
  | .i1 _ => 2
  | .i2 _ => 3
  | .unimpl _ => 1

/-- The instruction of a format, given the bytes after the opcode: `d8 = b1`, `d16 = a16 = b1 + 256 * b2` (R76). -/
def Form.build (f : Form) (b1 b2 : Byte) : Instr :=
  match f with
  | .i0 i => i
  | .i1 mk => mk b1
  | .i2 mk => mk (joinBytes b2 b1)
  | .unimpl i => i

/-- Opcodes 0x00 to 0x0F of the map of R78. -/
def opcodeRow0 : List Form :=
  [.i0 .nop, .i2 .lxiB, .i0 .staxB, .i0 .inxB,
   .i0 .inrB, .i0 .dcrB, .i1 .mviB, .i0 .rlc,
   .i0 .nop08, .i0 .dadB, .i0 .ldaxB, .i0 .dcxB,
   .i0 .inrC, .i0 .dcrC, .i1 .mviC, .i0 .rrc]

/-- Opcodes 0x10 to 0x1F of the map of R78. -/
def opcodeRow1 : List Form :=
  [.i0 .nop10, .i2 .lxiD, .i0 .staxD, .i0 .inxD,
   .i0 .inrD, .i0 .dcrD, .i1 .mviD, .i0 .ral,
   .i0 .nop18, .i0 .dadD, .i0 .ldaxD, .i0 .dcxD,
   .i0 .inrE, .i0 .dcrE, .i1 .mviE, .i0 .rar]

/-- Opcodes 0x20 to 0x2F of the map of R78. -/
def opcodeRow2 : List Form :=
  [.i0 .nop20, .i2 .lxiH, .i2 .shld, .i0 .inxH,
   .i0 .inrH, .i0 .dcrH, .i1 .mviH, .i0 .daa,
   .i0 .nop28, .i0 .dadH, .i2 .lhld, .i0 .dcxH,
   .i0 .inrL, .i0 .dcrL, .i1 .mviL, .i0 .cma]

/-- Opcodes 0x30 to 0x3F of the map of R78. -/
def opcodeRow3 : List Form :=
  [.i0 .nop30, .i2 .lxiSP, .i2 .sta, .i0 .inxSP,
   .i0 .inrM, .i0 .dcrM, .i1 .mviM, .i0 .stc,
   .i0 .nop38, .i0 .dadSP, .i2 .lda, .i0 .dcxSP,
   .i0 .inrA, .i0 .dcrA, .i1 .mviA, .i0 .cmc]

/-- Opcodes 0x40 to 0x4F of the map of R78. -/
def opcodeRow4 : List Form :=
  [.i0 .movBB, .i0 .movBC, .i0 .movBD, .i0 .movBE,
   .i0 .movBH, .i0 .movBL, .i0 .movBM, .i0 .movBA,
   .i0 .movCB, .i0 .movCC, .i0 .movCD, .i0 .movCE,
   .i0 .movCH, .i0 .movCL, .i0 .movCM, .i0 .movCA]

/-- Opcodes 0x50 to 0x5F of the map of R78. -/
def opcodeRow5 : List Form :=
  [.i0 .movDB, .i0 .movDC, .i0 .movDD, .i0 .movDE,
   .i0 .movDH, .i0 .movDL, .i0 .movDM, .i0 .movDA,
   .i0 .movEB, .i0 .movEC, .i0 .movED, .i0 .movEE,
   .i0 .movEH, .i0 .movEL, .i0 .movEM, .i0 .movEA]

/-- Opcodes 0x60 to 0x6F of the map of R78. -/
def opcodeRow6 : List Form :=
  [.i0 .movHB, .i0 .movHC, .i0 .movHD, .i0 .movHE,
   .i0 .movHH, .i0 .movHL, .i0 .movHM, .i0 .movHA,
   .i0 .movLB, .i0 .movLC, .i0 .movLD, .i0 .movLE,
   .i0 .movLH, .i0 .movLL, .i0 .movLM, .i0 .movLA]

/-- Opcodes 0x70 to 0x7F of the map of R78. -/
def opcodeRow7 : List Form :=
  [.i0 .movMB, .i0 .movMC, .i0 .movMD, .i0 .movME,
   .i0 .movMH, .i0 .movML, .i0 .hlt, .i0 .movMA,
   .i0 .movAB, .i0 .movAC, .i0 .movAD, .i0 .movAE,
   .i0 .movAH, .i0 .movAL, .i0 .movAM, .i0 .movAA]

/-- Opcodes 0x80 to 0x8F of the map of R78. -/
def opcodeRow8 : List Form :=
  [.i0 .addB, .i0 .addC, .i0 .addD, .i0 .addE,
   .i0 .addH, .i0 .addL, .i0 .addM, .i0 .addA,
   .i0 .adcB, .i0 .adcC, .i0 .adcD, .i0 .adcE,
   .i0 .adcH, .i0 .adcL, .i0 .adcM, .i0 .adcA]

/-- Opcodes 0x90 to 0x9F of the map of R78. -/
def opcodeRow9 : List Form :=
  [.i0 .subB, .i0 .subC, .i0 .subD, .i0 .subE,
   .i0 .subH, .i0 .subL, .i0 .subM, .i0 .subA,
   .i0 .sbbB, .i0 .sbbC, .i0 .sbbD, .i0 .sbbE,
   .i0 .sbbH, .i0 .sbbL, .i0 .sbbM, .i0 .sbbA]

/-- Opcodes 0xA0 to 0xAF of the map of R78. -/
def opcodeRowA : List Form :=
  [.i0 .anaB, .i0 .anaC, .i0 .anaD, .i0 .anaE,
   .i0 .anaH, .i0 .anaL, .i0 .anaM, .i0 .anaA,
   .i0 .xraB, .i0 .xraC, .i0 .xraD, .i0 .xraE,
   .i0 .xraH, .i0 .xraL, .i0 .xraM, .i0 .xraA]

/-- Opcodes 0xB0 to 0xBF of the map of R78. -/
def opcodeRowB : List Form :=
  [.i0 .oraB, .i0 .oraC, .i0 .oraD, .i0 .oraE,
   .i0 .oraH, .i0 .oraL, .i0 .oraM, .i0 .oraA,
   .i0 .cmpB, .i0 .cmpC, .i0 .cmpD, .i0 .cmpE,
   .i0 .cmpH, .i0 .cmpL, .i0 .cmpM, .i0 .cmpA]

/-- Opcodes 0xC0 to 0xCF of the map of R78. -/
def opcodeRowC : List Form :=
  [.i0 .rnz, .i0 .popB, .i2 .jnz, .i2 .jmp,
   .i2 .cnz, .i0 .pushB, .i1 .adi, .i0 .rst0,
   .i0 .rz, .i0 .ret, .i2 .jz, .unimpl .unimplCB,
   .i2 .cz, .i2 .call, .i1 .aci, .i0 .rst1]

/-- Opcodes 0xD0 to 0xDF of the map of R78. -/
def opcodeRowD : List Form :=
  [.i0 .rnc, .i0 .popD, .i2 .jnc, .unimpl .outPort,
   .i2 .cnc, .i0 .pushD, .i1 .sui, .i0 .rst2,
   .i0 .rc, .unimpl .unimplD9, .i2 .jc, .unimpl .inPort,
   .i2 .cc, .unimpl .unimplDD, .i1 .sbi, .i0 .rst3]

/-- Opcodes 0xE0 to 0xEF of the map of R78. -/
def opcodeRowE : List Form :=
  [.i0 .rpo, .i0 .popH, .i2 .jpo, .i0 .xthl,
   .i2 .cpo, .i0 .pushH, .i1 .ani, .i0 .rst4,
   .i0 .rpe, .i0 .pchl, .i2 .jpe, .i0 .xchg,
   .i2 .cpe, .unimpl .unimplED, .i1 .xri, .i0 .rst5]

/-- Opcodes 0xF0 to 0xFF of the map of R78. -/
def opcodeRowF : List Form :=
  [.i0 .rp, .i0 .popPSW, .i2 .jp, .i0 .di,
   .i2 .cp, .i0 .pushPSW, .i1 .ori, .i0 .rst6,
   .i0 .rm, .i0 .sphl, .i2 .jm, .i0 .ei,
   .i2 .cm, .unimpl .unimplFD, .i1 .cpi, .i0 .rst7]
/-- The row of the map an opcode byte's high half selects (R78). -/
def opcodeRow (hi : BitVec 4) : List Form :=
  match hi with
  | 0x0 => opcodeRow0
  | 0x1 => opcodeRow1
  | 0x2 => opcodeRow2
  | 0x3 => opcodeRow3
  | 0x4 => opcodeRow4
  | 0x5 => opcodeRow5
  | 0x6 => opcodeRow6
  | 0x7 => opcodeRow7
  | 0x8 => opcodeRow8
  | 0x9 => opcodeRow9
  | 0xA => opcodeRowA
  | 0xB => opcodeRowB
  | 0xC => opcodeRowC
  | 0xD => opcodeRowD
  | 0xE => opcodeRowE
  | _ => opcodeRowF

theorem opcodeRow_length (hi : BitVec 4) : (opcodeRow hi).length = 16 := by
  revert hi; decide

/-- The cell an opcode byte selects: "each of the 256 values of the opcode byte selects exactly one row" (R79). -/
def opcodeForm (op : Byte) : Form :=
  (opcodeRow (op.extractLsb' 4 4))[(op.extractLsb' 0 4).toNat]'(by
    rw [opcodeRow_length]
    exact (op.extractLsb' 0 4).isLt)

/-- `Len(op)` (R77). -/
def opcodeLength (op : Byte) : Nat := (opcodeForm op).length

/-- Why a list of bytes is not the beginning of an instruction: it ends too early. Every opcode byte decodes (R79). -/
inductive DecodeError where
  | noBytes
  | missingOperand (op : Byte)
  deriving DecidableEq, Repr

/-- Reads one instruction and returns it with the bytes after it; the operation and the length depend on the opcode byte
alone (R77). Total on any list of bytes. -/
def decode : List Byte → Except DecodeError (Instr × List Byte)
  | [] => .error .noBytes
  | op :: rest =>
    match opcodeForm op with
    | .i0 i => .ok (i, rest)
    | .unimpl i => .ok (i, rest)
    | .i1 mk =>
      match rest with
      | b1 :: rest' => .ok (mk b1, rest')
      | _ => .error (.missingOperand op)
    | .i2 mk =>
      match rest with
      | b1 :: b2 :: rest' => .ok (mk (joinBytes b2 b1), rest')
      | _ => .error (.missingOperand op)

/-- The first `n` bytes of an instruction word numbered as spec/opcode_table.json numbers it: byte `k` is bits `8k+7` to `8k`. -/
def tableWordBytes : Nat → Nat → List Byte
  | 0, _ => []
  | n + 1, w => BitVec.ofNat 8 w :: tableWordBytes n (w / 256)

/-- What the decoder reads from an instruction whose bits are `w`; every bit above `nbits` is zero, up to the longest
instruction (3 bytes, R70). -/
def decodeTableWord (nbits w : Nat) : Option Instr :=
  match decode (tableWordBytes 3 (w % 2 ^ nbits)) with
  | .ok (i, _) => some i
  | .error _ => none

/-- The bytes of an instruction: the opcode number of its row (R78), then d8, or the word low byte first (R71, R76). -/
def encode : Instr → List Byte
  | .nop => [0x00]
  | .lxiB d16 => 0x01 :: wordBytes d16
  | .staxB => [0x02]
  | .inxB => [0x03]
  | .inrB => [0x04]
  | .dcrB => [0x05]
  | .mviB d8 => [0x06, d8]
  | .rlc => [0x07]
  | .nop08 => [0x08]
  | .dadB => [0x09]
  | .ldaxB => [0x0A]
  | .dcxB => [0x0B]
  | .inrC => [0x0C]
  | .dcrC => [0x0D]
  | .mviC d8 => [0x0E, d8]
  | .rrc => [0x0F]
  | .nop10 => [0x10]
  | .lxiD d16 => 0x11 :: wordBytes d16
  | .staxD => [0x12]
  | .inxD => [0x13]
  | .inrD => [0x14]
  | .dcrD => [0x15]
  | .mviD d8 => [0x16, d8]
  | .ral => [0x17]
  | .nop18 => [0x18]
  | .dadD => [0x19]
  | .ldaxD => [0x1A]
  | .dcxD => [0x1B]
  | .inrE => [0x1C]
  | .dcrE => [0x1D]
  | .mviE d8 => [0x1E, d8]
  | .rar => [0x1F]
  | .nop20 => [0x20]
  | .lxiH d16 => 0x21 :: wordBytes d16
  | .shld a16 => 0x22 :: wordBytes a16
  | .inxH => [0x23]
  | .inrH => [0x24]
  | .dcrH => [0x25]
  | .mviH d8 => [0x26, d8]
  | .daa => [0x27]
  | .nop28 => [0x28]
  | .dadH => [0x29]
  | .lhld a16 => 0x2A :: wordBytes a16
  | .dcxH => [0x2B]
  | .inrL => [0x2C]
  | .dcrL => [0x2D]
  | .mviL d8 => [0x2E, d8]
  | .cma => [0x2F]
  | .nop30 => [0x30]
  | .lxiSP d16 => 0x31 :: wordBytes d16
  | .sta a16 => 0x32 :: wordBytes a16
  | .inxSP => [0x33]
  | .inrM => [0x34]
  | .dcrM => [0x35]
  | .mviM d8 => [0x36, d8]
  | .stc => [0x37]
  | .nop38 => [0x38]
  | .dadSP => [0x39]
  | .lda a16 => 0x3A :: wordBytes a16
  | .dcxSP => [0x3B]
  | .inrA => [0x3C]
  | .dcrA => [0x3D]
  | .mviA d8 => [0x3E, d8]
  | .cmc => [0x3F]
  | .movBB => [0x40]
  | .movBC => [0x41]
  | .movBD => [0x42]
  | .movBE => [0x43]
  | .movBH => [0x44]
  | .movBL => [0x45]
  | .movBM => [0x46]
  | .movBA => [0x47]
  | .movCB => [0x48]
  | .movCC => [0x49]
  | .movCD => [0x4A]
  | .movCE => [0x4B]
  | .movCH => [0x4C]
  | .movCL => [0x4D]
  | .movCM => [0x4E]
  | .movCA => [0x4F]
  | .movDB => [0x50]
  | .movDC => [0x51]
  | .movDD => [0x52]
  | .movDE => [0x53]
  | .movDH => [0x54]
  | .movDL => [0x55]
  | .movDM => [0x56]
  | .movDA => [0x57]
  | .movEB => [0x58]
  | .movEC => [0x59]
  | .movED => [0x5A]
  | .movEE => [0x5B]
  | .movEH => [0x5C]
  | .movEL => [0x5D]
  | .movEM => [0x5E]
  | .movEA => [0x5F]
  | .movHB => [0x60]
  | .movHC => [0x61]
  | .movHD => [0x62]
  | .movHE => [0x63]
  | .movHH => [0x64]
  | .movHL => [0x65]
  | .movHM => [0x66]
  | .movHA => [0x67]
  | .movLB => [0x68]
  | .movLC => [0x69]
  | .movLD => [0x6A]
  | .movLE => [0x6B]
  | .movLH => [0x6C]
  | .movLL => [0x6D]
  | .movLM => [0x6E]
  | .movLA => [0x6F]
  | .movMB => [0x70]
  | .movMC => [0x71]
  | .movMD => [0x72]
  | .movME => [0x73]
  | .movMH => [0x74]
  | .movML => [0x75]
  | .hlt => [0x76]
  | .movMA => [0x77]
  | .movAB => [0x78]
  | .movAC => [0x79]
  | .movAD => [0x7A]
  | .movAE => [0x7B]
  | .movAH => [0x7C]
  | .movAL => [0x7D]
  | .movAM => [0x7E]
  | .movAA => [0x7F]
  | .addB => [0x80]
  | .addC => [0x81]
  | .addD => [0x82]
  | .addE => [0x83]
  | .addH => [0x84]
  | .addL => [0x85]
  | .addM => [0x86]
  | .addA => [0x87]
  | .adcB => [0x88]
  | .adcC => [0x89]
  | .adcD => [0x8A]
  | .adcE => [0x8B]
  | .adcH => [0x8C]
  | .adcL => [0x8D]
  | .adcM => [0x8E]
  | .adcA => [0x8F]
  | .subB => [0x90]
  | .subC => [0x91]
  | .subD => [0x92]
  | .subE => [0x93]
  | .subH => [0x94]
  | .subL => [0x95]
  | .subM => [0x96]
  | .subA => [0x97]
  | .sbbB => [0x98]
  | .sbbC => [0x99]
  | .sbbD => [0x9A]
  | .sbbE => [0x9B]
  | .sbbH => [0x9C]
  | .sbbL => [0x9D]
  | .sbbM => [0x9E]
  | .sbbA => [0x9F]
  | .anaB => [0xA0]
  | .anaC => [0xA1]
  | .anaD => [0xA2]
  | .anaE => [0xA3]
  | .anaH => [0xA4]
  | .anaL => [0xA5]
  | .anaM => [0xA6]
  | .anaA => [0xA7]
  | .xraB => [0xA8]
  | .xraC => [0xA9]
  | .xraD => [0xAA]
  | .xraE => [0xAB]
  | .xraH => [0xAC]
  | .xraL => [0xAD]
  | .xraM => [0xAE]
  | .xraA => [0xAF]
  | .oraB => [0xB0]
  | .oraC => [0xB1]
  | .oraD => [0xB2]
  | .oraE => [0xB3]
  | .oraH => [0xB4]
  | .oraL => [0xB5]
  | .oraM => [0xB6]
  | .oraA => [0xB7]
  | .cmpB => [0xB8]
  | .cmpC => [0xB9]
  | .cmpD => [0xBA]
  | .cmpE => [0xBB]
  | .cmpH => [0xBC]
  | .cmpL => [0xBD]
  | .cmpM => [0xBE]
  | .cmpA => [0xBF]
  | .rnz => [0xC0]
  | .popB => [0xC1]
  | .jnz a16 => 0xC2 :: wordBytes a16
  | .jmp a16 => 0xC3 :: wordBytes a16
  | .cnz a16 => 0xC4 :: wordBytes a16
  | .pushB => [0xC5]
  | .adi d8 => [0xC6, d8]
  | .rst0 => [0xC7]
  | .rz => [0xC8]
  | .ret => [0xC9]
  | .jz a16 => 0xCA :: wordBytes a16
  | .unimplCB => [0xCB]
  | .cz a16 => 0xCC :: wordBytes a16
  | .call a16 => 0xCD :: wordBytes a16
  | .aci d8 => [0xCE, d8]
  | .rst1 => [0xCF]
  | .rnc => [0xD0]
  | .popD => [0xD1]
  | .jnc a16 => 0xD2 :: wordBytes a16
  | .outPort => [0xD3]
  | .cnc a16 => 0xD4 :: wordBytes a16
  | .pushD => [0xD5]
  | .sui d8 => [0xD6, d8]
  | .rst2 => [0xD7]
  | .rc => [0xD8]
  | .unimplD9 => [0xD9]
  | .jc a16 => 0xDA :: wordBytes a16
  | .inPort => [0xDB]
  | .cc a16 => 0xDC :: wordBytes a16
  | .unimplDD => [0xDD]
  | .sbi d8 => [0xDE, d8]
  | .rst3 => [0xDF]
  | .rpo => [0xE0]
  | .popH => [0xE1]
  | .jpo a16 => 0xE2 :: wordBytes a16
  | .xthl => [0xE3]
  | .cpo a16 => 0xE4 :: wordBytes a16
  | .pushH => [0xE5]
  | .ani d8 => [0xE6, d8]
  | .rst4 => [0xE7]
  | .rpe => [0xE8]
  | .pchl => [0xE9]
  | .jpe a16 => 0xEA :: wordBytes a16
  | .xchg => [0xEB]
  | .cpe a16 => 0xEC :: wordBytes a16
  | .unimplED => [0xED]
  | .xri d8 => [0xEE, d8]
  | .rst5 => [0xEF]
  | .rp => [0xF0]
  | .popPSW => [0xF1]
  | .jp a16 => 0xF2 :: wordBytes a16
  | .di => [0xF3]
  | .cp a16 => 0xF4 :: wordBytes a16
  | .pushPSW => [0xF5]
  | .ori d8 => [0xF6, d8]
  | .rst6 => [0xF7]
  | .rm => [0xF8]
  | .sphl => [0xF9]
  | .jm a16 => 0xFA :: wordBytes a16
  | .ei => [0xFB]
  | .cm a16 => 0xFC :: wordBytes a16
  | .unimplFD => [0xFD]
  | .cpi d8 => [0xFE, d8]
  | .rst7 => [0xFF]
/-- The length in bytes of an instruction (R70, R77); of an unimplemented opcode only its one byte is read (R80). -/
def Instr.length (i : Instr) : Nat := (encode i).length

end Sys2Proof
end

