-- ==== Sys2Proof/Machine/State.lean ====
section
/-! DEFINITION. The state of the machine (spec/10_state.md R10 to R25) as plain data, the reasons a step can stop, and the state
after reset (R24; R280 of 70_reset_and_hazards.md). -/

namespace Sys2Proof.Machine

/-- The five condition codes: Zero, Sign, Parity, Carry, Auxiliary-Carry (R17). AC is a stored bit (R19). -/
structure Flags where
  z : Bool
  s : Bool
  p : Bool
  cy : Bool
  ac : Bool
  deriving DecidableEq, Repr

/-- The result of a step (R26, R255 of 60_exceptions.md). -/
inductive StepResult where
  | cont
  | halted
  | unimplemented (op : Byte)
  deriving DecidableEq, Repr

/-- The memory behind the port (R22, R40): the bytes that differ from `Config.unlistedByte`, addresses strictly rising. -/
abbrev Memory := List Host.Cell

/-- The canonical form of the entries at addresses `lo` and above. -/
def Memory.wfFrom : Nat → Memory → Bool
  | _, [] => true
  | lo, (k, v) :: rest =>
    decide (lo ≤ k) && decide (k < Config.memBytes) && decide (v ≠ Config.unlistedByte) && Memory.wfFrom (k + 1) rest

/-- The canonical form: addresses strictly rising and below 65536, no entry equal to what an unlisted address reads as. -/
def Memory.wf (m : Memory) : Bool := Memory.wfFrom 0 m

/-- The whole architectural state (R10 to R22; R286): seven 8-bit registers, SP, PC, the five flags, INTE and memory. `result`
is the model's own field (log 4): the value on the output port `result` after the last completed step (R30). No operation reads
it, since "there is no halted latch: `Halted` is a value of the step result, not state" (R21). -/
structure State where
  a : Byte
  b : Byte
  c : Byte
  d : Byte
  e : Byte
  h : Byte
  l : Byte
  sp : Word
  pc : Word
  flags : Flags
  inte : Bool
  mem : Memory
  result : StepResult
  deriving DecidableEq, Repr

/-- Why an operation stops. -/
inductive Fault where
  /-- Raised by a step whose opcode byte `op` has no defined case (IN, OUT and the five undocumented opcodes): R251 of
  60_exceptions.md, "Modelling: a fault". No state changes and PC stays on the opcode, so the state after it is the state the
  step was given. Safe: the model stops where the host may step on. -/
  | unimplemented (op : Byte)
  /-- Raised by the interrupt operation, never by a step, for a vector above 7 (R252). No state changes. Safe. -/
  | invalidInterrupt
  deriving DecidableEq, Repr

/-- Why an instruction has no meaning. -/
inductive Refusal where
  /-- Raised by an arm of `exec` for an instruction without a meaning; no arm does. Safe. -/
  | notModelled (mnemonic : String)
  deriving DecidableEq, Repr

/-- What an operation answers. -/
abbrev Out := Host.Outcome State Fault Refusal

/-- The machine right after reset from power-up. PC, INTE and AC are the values of R24; the other registers and flags, for which
R24 gives none, hold the values log 1 names; memory lists nothing (log 2). The reset operation on any state is
`State.applyReset` (Machine/Operations.lean). -/
def State.reset : State where
  a := Config.powerOnByte
  b := Config.powerOnByte
  c := Config.powerOnByte
  d := Config.powerOnByte
  e := Config.powerOnByte
  h := Config.powerOnByte
  l := Config.powerOnByte
  sp := Config.powerOnSP
  pc := Config.resetPC
  flags :=
    { z := Config.powerOnFlag
      s := Config.powerOnFlag
      p := Config.powerOnFlag
      cy := Config.powerOnFlag
      ac := Config.resetAC }
  inte := Config.resetINTE
  mem := []
  result := .cont

end Sys2Proof.Machine
end

