-- ==== Sys2Proof/Machine/Flags.lean ====
section
/-! DEFINITION. The ALU functions and the flag rules (spec/40_alu_and_flag_rules.md R100 to R111) and the status word
(spec/10_state.md R13). Sums and differences are computed on natural numbers and narrowed at the end (R110). -/

namespace Sys2Proof.Machine

/-- `Parity(b)`: true when `b` has an even number of set bits (R100). -/
def parity (b : Byte) : Bool :=
  (((b.getLsbD 0).toNat + (b.getLsbD 1).toNat + (b.getLsbD 2).toNat + (b.getLsbD 3).toNat +
    (b.getLsbD 4).toNat + (b.getLsbD 5).toNat + (b.getLsbD 6).toNat + (b.getLsbD 7).toNat) % 2) == 0

/-- `SetZSP(r)`: Zero, Sign and Parity from the low byte of a result (R101); CY and AC are kept. -/
def Flags.setZSP (f : Flags) (r : Nat) : Flags :=
  let lo := BitVec.ofNat 8 r
  { f with z := lo == 0, s := lo.getLsbD 7, p := parity lo }

/-- `Add8(a, b, cin)` (R102): the sum modulo 256; CY is true when it exceeds 0xFF; AC is kept. -/
def add8 (a b : Byte) (cin : Bool) (f : Flags) : Byte × Flags :=
  let t := a.toNat + b.toNat + cin.toNat
  (BitVec.ofNat 8 t, { f.setZSP t with cy := decide (t > 0xFF) })

/-- `Sub8(a, b, cin)` (R103): `t` is the unsigned 16-bit difference; CY is true when it exceeds 0xFF; AC is kept. -/
def sub8 (a b : Byte) (cin : Bool) (f : Flags) : Byte × Flags :=
  let t := (a.toNat + 65536 - b.toNat - cin.toNat) % 65536
  (BitVec.ofNat 8 t, { f.setZSP t with cy := decide (t > 0xFF) })

/-- `Logic8(r)` (R105): Zero, Sign and Parity from the result; CY and AC are forced to false. -/
def logic8 (r : Byte) (f : Flags) : Byte × Flags :=
  (r, { f.setZSP r.toNat with cy := false, ac := false })

/-- `Inc8(v)` (R106): CY and AC are kept. -/
def inc8 (v : Byte) (f : Flags) : Byte × Flags :=
  (v + 1, f.setZSP (v + 1).toNat)

/-- `Dec8(v)` (R106): CY and AC are kept. -/
def dec8 (v : Byte) (f : Flags) : Byte × Flags :=
  (v - 1, f.setZSP (v - 1).toNat)

/-- `Add16(a, b)` (R108): CY is true when the sum exceeds 0xFFFF; the other flags are kept. -/
def add16 (a b : Word) (f : Flags) : Word × Flags :=
  let t := a.toNat + b.toNat
  (BitVec.ofNat 16 t, { f with cy := decide (t > 0xFFFF) })

/-- RLC (R189): bit 0 receives the old bit 7, which is also the new CY. -/
def rlc8 (v : Byte) (f : Flags) : Byte × Flags :=
  let c := v.getLsbD 7
  (BitVec.ofNat 8 ((v.toNat * 2) % 256 + c.toNat), { f with cy := c })

/-- RRC (R190): bit 7 receives the old bit 0, which is also the new CY. -/
def rrc8 (v : Byte) (f : Flags) : Byte × Flags :=
  let c := v.getLsbD 0
  (BitVec.ofNat 8 (v.toNat / 2 + 128 * c.toNat), { f with cy := c })

/-- RAL (R191): bit 0 receives the old Carry; CY receives the old bit 7. -/
def ral8 (v : Byte) (f : Flags) : Byte × Flags :=
  let c := v.getLsbD 7
  (BitVec.ofNat 8 ((v.toNat * 2) % 256 + f.cy.toNat), { f with cy := c })

/-- RAR (R192): bit 7 receives the old Carry; CY receives the old bit 0. -/
def rar8 (v : Byte) (f : Flags) : Byte × Flags :=
  let c := v.getLsbD 0
  (BitVec.ofNat 8 (v.toNat / 2 + 128 * f.cy.toNat), { f with cy := c })

/-- `Cond(ccc)`: each condition tests exactly one flag (R111). -/
def Flags.cond (f : Flags) : Cond → Bool
  | .nz => !f.z
  | .z => f.z
  | .nc => !f.cy
  | .c => f.cy
  | .po => !f.p
  | .pe => f.p
  | .p => !f.s
  | .m => f.s

/-- `PackPSW()`: the status word S Z 0 AC 0 P 1 CY, bit 7 to bit 0 (R13). -/
def packPSW (f : Flags) : Byte :=
  BitVec.ofNat 8 (f.s.toNat * 128 + f.z.toNat * 64 + 0 * 32 + f.ac.toNat * 16 + 0 * 8 + f.p.toNat * 4 + 1 * 2 + f.cy.toNat)

/-- `UnpackPSW(b)`: all five flags from the byte; bits 5, 3 and 1 are ignored (R13). AC is loaded from bit 4 under the parameter
`AC_LOADED_BY_POP_PSW`, which this hardware takes as true (R4, R19). -/
def unpackPSW (b : Byte) : Flags where
  s := b.getLsbD 7
  z := b.getLsbD 6
  ac := Config.acLoadedByPopPSW && b.getLsbD 4
  p := b.getLsbD 2
  cy := b.getLsbD 0

/-- The numeric code of a step result on `result[1:0]` (R255). -/
def StepResult.code : StepResult → BitVec 2
  | .cont => 0
  | .halted => 1
  | .unimplemented _ => 2

/-- The byte on `result_opcode[7:0]`, meaningful for Unimplemented only (R255). -/
def StepResult.opcode : StepResult → Option Byte
  | .cont => none
  | .halted => none
  | .unimplemented op => some op

end Sys2Proof.Machine
end

