-- ==== Sys2Proof/Machine/Memory.lean ====
section
/-! DEFINITION. One byte of memory: reading and writing the sorted list (spec/20_memory.md R40, R42, R43, R48). A write first takes
the address's entry out, so it is right on any list and keeps the canonical form. -/

namespace Sys2Proof.Machine

/-- The byte at an address (R42): the last value written there, or what an unlisted address reads as. -/
def Memory.read : Memory → Nat → Byte
  | [], _ => Config.unlistedByte
  | (k, v) :: rest, addr => if k = addr then v else Memory.read rest addr

/-- The memory without an entry at `addr`. -/
def Memory.remove : Memory → Nat → Memory
  | [], _ => []
  | (k, v) :: rest, addr => if k = addr then Memory.remove rest addr else (k, v) :: Memory.remove rest addr

/-- The memory with the entry `(addr, x)` before the first higher address. -/
def Memory.place : Memory → Nat → Byte → Memory
  | [], addr, x => [(addr, x)]
  | (k, v) :: rest, addr, x => if addr < k then (addr, x) :: (k, v) :: rest else (k, v) :: Memory.place rest addr x

/-- Writes one byte: "A write changes exactly the bytes named and nothing else" (R43). Writing what an unlisted address reads as
removes the entry. -/
def Memory.write (m : Memory) (addr : Nat) (x : Byte) : Memory :=
  if x = Config.unlistedByte then m.remove addr else (m.remove addr).place addr x

end Sys2Proof.Machine
end

