-- ==== Sys2Proof/Machine/Ops.lean ====
section
/-! DEFINITION. The named operations over registers and memory: registers and pairs (spec/10_state.md R10 to R16), memory accesses
and the stack (spec/20_memory.md R42 to R52), instruction fetch (R57), how an instruction ends (R16, R86 of 30_encoding.md), and the
interrupt entry beside the return (R258, R261 of 60_exceptions.md). -/

namespace Sys2Proof.Machine

/-- `x[i]`: the register a code selects (R11). -/
def State.reg (s : State) : Reg → Byte
  | .b => s.b
  | .c => s.c
  | .d => s.d
  | .e => s.e
  | .h => s.h
  | .l => s.l
  | .a => s.a

/-- `x[i] <- v` (R11). -/
def State.setReg (s : State) (r : Reg) (v : Byte) : State :=
  match r with
  | .b => { s with b := v }
  | .c => { s with c := v }
  | .d => { s with d := v }
  | .e => { s with e := v }
  | .h => { s with h := v }
  | .l => { s with l := v }
  | .a => { s with a := v }

/-- `BC = {B, C}` (R12). -/
def State.bc (s : State) : Word := joinBytes s.b s.c

/-- `DE = {D, E}` (R12). -/
def State.de (s : State) : Word := joinBytes s.d s.e

/-- `HL = {H, L}` (R12). -/
def State.hl (s : State) : Word := joinBytes s.h s.l

/-- A 16-bit operand: a pair, SP, or the accumulator and the status word `{A, PackPSW()}` (R12, R74, R221). -/
def State.pair (s : State) : PairName → Word
  | .bc => s.bc
  | .de => s.de
  | .hl => s.hl
  | .sp => s.sp
  | .psw => joinBytes s.a (packPSW s.flags)

/-- Writes a 16-bit operand: the first-named register is the high byte (R12); for PSW, A and the five flags (R223). -/
def State.setPair (s : State) (rp : PairName) (v : Word) : State :=
  match rp with
  | .bc => { s with b := hiByte v, c := loByte v }
  | .de => { s with d := hiByte v, e := loByte v }
  | .hl => { s with h := hiByte v, l := loByte v }
  | .sp => { s with sp := v }
  | .psw => { s with a := hiByte v, flags := unpackPSW (loByte v) }

/-- `MemRead(addr, 1)` (R42); an address is a `Word`, so it is reduced modulo 65536 (R45). -/
def State.memRead (s : State) (addr : Word) : Byte := s.mem.read addr.toNat

/-- `MemRead(addr, 2)`: the low byte at the lower address; `addr + 1` wraps (R42, R44, R45). -/
def State.memRead16 (s : State) (addr : Word) : Word := joinBytes (s.memRead (addr + 1)) (s.memRead addr)

/-- `MemWrite(addr, 1, v)` (R43). -/
def State.memWrite (s : State) (addr : Word) (v : Byte) : State := { s with mem := s.mem.write addr.toNat v }

/-- `MemWrite(addr, 2, v)`: the low byte at the lower address, written first (R43, R44). -/
def State.memWrite16 (s : State) (addr : Word) (v : Word) : State :=
  (s.memWrite addr (loByte v)).memWrite (addr + 1) (hiByte v)

/-- `Push16(v)`: the high byte at SP-1, then the low byte at SP-2, then SP <- SP - 2 (R51). -/
def State.push16 (s : State) (v : Word) : State :=
  { (s.memWrite (s.sp - 1) (hiByte v)).memWrite (s.sp - 2) (loByte v) with sp := s.sp - 2 }

/-- `Pop16()`, the value: the low byte at SP, the high byte at SP+1 (R52). -/
def State.top16 (s : State) : Word := joinBytes (s.memRead (s.sp + 1)) (s.memRead s.sp)

/-- `Pop16()`, the effect: SP <- SP + 2; memory is not changed (R52). -/
def State.dropTop (s : State) : State := { s with sp := s.sp + 2 }

/-- The end of an instruction of `len` bytes that transfers no control: PC <- npc, result Continue (R16, R86). -/
def advance (len : Word) (s : State) : Out := .next { s with pc := s.pc + len, result := .cont }

/-- `pc <- target`: the final PC is the target itself, result Continue (R16). -/
def jump (target : Word) (s : State) : Out := .next { s with pc := target, result := .cont }

/-- A call: `Push16(npc)`, then `pc <- target` (R202, R206 of 44_control_transfer.md). -/
def callThrough (len target : Word) (s : State) : Out := jump target (s.push16 (s.pc + len))

/-- The return: `pc <- Pop16()` (R204); it serves after an interrupt too and does not touch INTE (R261). -/
def returnFromCall (s : State) : Out := jump s.top16 s.dropTop

/-- The address of RST or interrupt vector `n`: `8 * n` (R49, R206, R258). -/
def vectorAddress (n : Nat) : Word := BitVec.ofNat 16 (Config.vectorStride * n)

/-- `interrupt(vector)` (R252, R257, R258): the vector range is checked first; with INTE false nothing happens; else PC is pushed,
PC <- 8 * vector exactly, INTE <- false, and nothing else changes. It is an operation of the host, never taken by a step (R259). -/
def interrupt (vector : Nat) (s : State) : Out :=
  if vector < Config.vectorCount then
    if s.inte then .next { s.push16 s.pc with pc := vectorAddress vector, inte := false } else .next s
  else .fault .invalidInterrupt

/-- `raise Unimplemented(op)`: no state changes (R251). -/
def raiseUnimplemented (op : Byte) (_ : State) : Out := .fault (.unimplemented op)

/-- The instruction at PC: the opcode byte at PC, and the bytes at PC+1 and PC+2 if the instruction has them (R57, R86). -/
def fetch (s : State) : Instr :=
  (opcodeForm (s.memRead s.pc)).build (s.memRead (s.pc + 1)) (s.memRead (s.pc + 2))

/-- The bytes an instruction fetch reads, in order: as many as the opcode's length says, and no more (R57, R77). -/
def fetchBytes (s : State) : List Byte :=
  (List.range (opcodeLength (s.memRead s.pc))).map (fun k => s.memRead (s.pc + BitVec.ofNat 16 k))

/-- Stores a list of bytes from an address upward, wrapping (R45). -/
def State.storeBytes (s : State) (addr : Word) : List Byte → State
  | [] => s
  | v :: rest => (s.memWrite addr v).storeBytes (addr + 1) rest

end Sys2Proof.Machine
end

