-- ==== Sys2Proof/Machine/Operands.lean ====
section
/-! DEFINITION. The operand forms (spec/10_state.md R11; spec/41_data_transfer.md, addressing modes): the resolver of a 3-bit operand
code, and the instruction shapes the families share. -/

namespace Sys2Proof.Machine

/-- `Opnd(i)`: the register, or the memory byte at HL (R11). -/
def State.readOperand (s : State) : Operand → Byte
  | .r reg => s.reg reg
  | .m => s.memRead s.hl

/-- `SetOpnd(i, v)`: the register, or the memory byte at HL (R11). -/
def State.writeOperand (s : State) (o : Operand) (v : Byte) : State :=
  match o with
  | .r reg => s.setReg reg v
  | .m => s.memWrite s.hl v

/-- The accumulator and the flags an ALU function returns. -/
def State.withAlu (s : State) (r : Byte × Flags) : State := { s with a := r.1, flags := r.2 }

/-- NOP, the alternate NOPs and DAA: nothing but `PC <- npc` (R229, R230 of 45_stack_io_machine.md; R172 of 42_arithmetic.md). -/
def noOperation (s : State) : Out := advance 1 s

end Sys2Proof.Machine
end

