-- ==== Sys2Proof/Machine/Arithmetic.lean ====
section
/-! DEFINITION. Arithmetic (spec/42_arithmetic.md R150 to R172). None writes AC or INTE; nothing faults. `x` is the operand (a
register, the byte at HL, or d8) and `len` the instruction's length. -/

namespace Sys2Proof.Machine

/-- ADD, ADI: A <- Add8(A, x, 0) (R150, R151, R152). -/
def addWith (x : Byte) (len : Word) (s : State) : Out := advance len (s.withAlu (add8 s.a x false s.flags))

/-- ADC, ACI: A <- Add8(A, x, CY) (R153, R154, R155). -/
def adcWith (x : Byte) (len : Word) (s : State) : Out := advance len (s.withAlu (add8 s.a x s.flags.cy s.flags))

/-- SUB, SUI: A <- Sub8(A, x, 0) (R156, R157, R158). -/
def subWith (x : Byte) (len : Word) (s : State) : Out := advance len (s.withAlu (sub8 s.a x false s.flags))

/-- SBB, SBI: A <- Sub8(A, x, CY) (R159, R160, R161). -/
def sbbWith (x : Byte) (len : Word) (s : State) : Out := advance len (s.withAlu (sub8 s.a x s.flags.cy s.flags))

/-- CMP, CPI: Sub8(A, x, 0) with the returned value discarded (R162, R163, R164; R104). -/
def cmpWith (x : Byte) (len : Word) (s : State) : Out :=
  advance len { s with flags := (sub8 s.a x false s.flags).2 }

/-- INR: the operand and the flags from Inc8 (R165, R166). -/
def increment (o : Operand) (s : State) : Out :=
  let r := inc8 (s.readOperand o) s.flags
  advance 1 { s.writeOperand o r.1 with flags := r.2 }

/-- DCR: the operand and the flags from Dec8 (R167, R168). -/
def decrement (o : Operand) (s : State) : Out :=
  let r := dec8 (s.readOperand o) s.flags
  advance 1 { s.writeOperand o r.1 with flags := r.2 }

/-- INX: the pair plus 1, modulo 65536 (R169). -/
def incrementPair (rp : PairName) (s : State) : Out := advance 1 (s.setPair rp (s.pair rp + 1))

/-- DCX: the pair minus 1, modulo 65536 (R170). -/
def decrementPair (rp : PairName) (s : State) : Out := advance 1 (s.setPair rp (s.pair rp - 1))

/-- DAD: HL <- Add16(HL, rp) (R171). -/
def addPairToHL (rp : PairName) (s : State) : Out :=
  let r := add16 s.hl (s.pair rp) s.flags
  advance 1 { s.setPair .hl r.1 with flags := r.2 }

/-- 0x03 INX B (R169). -/
def execInxB (s : State) : Out := incrementPair .bc s

/-- 0x04 INR B (R165). -/
def execInrB (s : State) : Out := increment (.r .b) s

/-- 0x05 DCR B (R167). -/
def execDcrB (s : State) : Out := decrement (.r .b) s

/-- 0x09 DAD B (R171). -/
def execDadB (s : State) : Out := addPairToHL .bc s

/-- 0x0B DCX B (R170). -/
def execDcxB (s : State) : Out := decrementPair .bc s

/-- 0x0C INR C (R165). -/
def execInrC (s : State) : Out := increment (.r .c) s

/-- 0x0D DCR C (R167). -/
def execDcrC (s : State) : Out := decrement (.r .c) s

/-- 0x13 INX D (R169). -/
def execInxD (s : State) : Out := incrementPair .de s

/-- 0x14 INR D (R165). -/
def execInrD (s : State) : Out := increment (.r .d) s

/-- 0x15 DCR D (R167). -/
def execDcrD (s : State) : Out := decrement (.r .d) s

/-- 0x19 DAD D (R171). -/
def execDadD (s : State) : Out := addPairToHL .de s

/-- 0x1B DCX D (R170). -/
def execDcxD (s : State) : Out := decrementPair .de s

/-- 0x1C INR E (R165). -/
def execInrE (s : State) : Out := increment (.r .e) s

/-- 0x1D DCR E (R167). -/
def execDcrE (s : State) : Out := decrement (.r .e) s

/-- 0x23 INX H (R169). -/
def execInxH (s : State) : Out := incrementPair .hl s

/-- 0x24 INR H (R165). -/
def execInrH (s : State) : Out := increment (.r .h) s

/-- 0x25 DCR H (R167). -/
def execDcrH (s : State) : Out := decrement (.r .h) s

/-- 0x27 DAA (R172). -/
def execDaa (s : State) : Out := noOperation s

/-- 0x29 DAD H (R171). -/
def execDadH (s : State) : Out := addPairToHL .hl s

/-- 0x2B DCX H (R170). -/
def execDcxH (s : State) : Out := decrementPair .hl s

/-- 0x2C INR L (R165). -/
def execInrL (s : State) : Out := increment (.r .l) s

/-- 0x2D DCR L (R167). -/
def execDcrL (s : State) : Out := decrement (.r .l) s

/-- 0x33 INX SP (R169). -/
def execInxSP (s : State) : Out := incrementPair .sp s

/-- 0x34 INR M (R166). -/
def execInrM (s : State) : Out := increment .m s

/-- 0x35 DCR M (R168). -/
def execDcrM (s : State) : Out := decrement .m s

/-- 0x39 DAD SP (R171). -/
def execDadSP (s : State) : Out := addPairToHL .sp s

/-- 0x3B DCX SP (R170). -/
def execDcxSP (s : State) : Out := decrementPair .sp s

/-- 0x3C INR A (R165). -/
def execInrA (s : State) : Out := increment (.r .a) s

/-- 0x3D DCR A (R167). -/
def execDcrA (s : State) : Out := decrement (.r .a) s

/-- 0x80 ADD B (R150). -/
def execAddB (s : State) : Out := addWith (s.readOperand (.r .b)) 1 s

/-- 0x81 ADD C (R150). -/
def execAddC (s : State) : Out := addWith (s.readOperand (.r .c)) 1 s

/-- 0x82 ADD D (R150). -/
def execAddD (s : State) : Out := addWith (s.readOperand (.r .d)) 1 s

/-- 0x83 ADD E (R150). -/
def execAddE (s : State) : Out := addWith (s.readOperand (.r .e)) 1 s

/-- 0x84 ADD H (R150). -/
def execAddH (s : State) : Out := addWith (s.readOperand (.r .h)) 1 s

/-- 0x85 ADD L (R150). -/
def execAddL (s : State) : Out := addWith (s.readOperand (.r .l)) 1 s

/-- 0x86 ADD M (R151). -/
def execAddM (s : State) : Out := addWith (s.readOperand .m) 1 s

/-- 0x87 ADD A (R150). -/
def execAddA (s : State) : Out := addWith (s.readOperand (.r .a)) 1 s

/-- 0x88 ADC B (R153). -/
def execAdcB (s : State) : Out := adcWith (s.readOperand (.r .b)) 1 s

/-- 0x89 ADC C (R153). -/
def execAdcC (s : State) : Out := adcWith (s.readOperand (.r .c)) 1 s

/-- 0x8A ADC D (R153). -/
def execAdcD (s : State) : Out := adcWith (s.readOperand (.r .d)) 1 s

/-- 0x8B ADC E (R153). -/
def execAdcE (s : State) : Out := adcWith (s.readOperand (.r .e)) 1 s

/-- 0x8C ADC H (R153). -/
def execAdcH (s : State) : Out := adcWith (s.readOperand (.r .h)) 1 s

/-- 0x8D ADC L (R153). -/
def execAdcL (s : State) : Out := adcWith (s.readOperand (.r .l)) 1 s

/-- 0x8E ADC M (R154). -/
def execAdcM (s : State) : Out := adcWith (s.readOperand .m) 1 s

/-- 0x8F ADC A (R153). -/
def execAdcA (s : State) : Out := adcWith (s.readOperand (.r .a)) 1 s

/-- 0x90 SUB B (R156). -/
def execSubB (s : State) : Out := subWith (s.readOperand (.r .b)) 1 s

/-- 0x91 SUB C (R156). -/
def execSubC (s : State) : Out := subWith (s.readOperand (.r .c)) 1 s

/-- 0x92 SUB D (R156). -/
def execSubD (s : State) : Out := subWith (s.readOperand (.r .d)) 1 s

/-- 0x93 SUB E (R156). -/
def execSubE (s : State) : Out := subWith (s.readOperand (.r .e)) 1 s

/-- 0x94 SUB H (R156). -/
def execSubH (s : State) : Out := subWith (s.readOperand (.r .h)) 1 s

/-- 0x95 SUB L (R156). -/
def execSubL (s : State) : Out := subWith (s.readOperand (.r .l)) 1 s

/-- 0x96 SUB M (R157). -/
def execSubM (s : State) : Out := subWith (s.readOperand .m) 1 s

/-- 0x97 SUB A (R156). -/
def execSubA (s : State) : Out := subWith (s.readOperand (.r .a)) 1 s

/-- 0x98 SBB B (R159). -/
def execSbbB (s : State) : Out := sbbWith (s.readOperand (.r .b)) 1 s

/-- 0x99 SBB C (R159). -/
def execSbbC (s : State) : Out := sbbWith (s.readOperand (.r .c)) 1 s

/-- 0x9A SBB D (R159). -/
def execSbbD (s : State) : Out := sbbWith (s.readOperand (.r .d)) 1 s

/-- 0x9B SBB E (R159). -/
def execSbbE (s : State) : Out := sbbWith (s.readOperand (.r .e)) 1 s

/-- 0x9C SBB H (R159). -/
def execSbbH (s : State) : Out := sbbWith (s.readOperand (.r .h)) 1 s

/-- 0x9D SBB L (R159). -/
def execSbbL (s : State) : Out := sbbWith (s.readOperand (.r .l)) 1 s

/-- 0x9E SBB M (R160). -/
def execSbbM (s : State) : Out := sbbWith (s.readOperand .m) 1 s

/-- 0x9F SBB A (R159). -/
def execSbbA (s : State) : Out := sbbWith (s.readOperand (.r .a)) 1 s

/-- 0xB8 CMP B (R162). -/
def execCmpB (s : State) : Out := cmpWith (s.readOperand (.r .b)) 1 s

/-- 0xB9 CMP C (R162). -/
def execCmpC (s : State) : Out := cmpWith (s.readOperand (.r .c)) 1 s

/-- 0xBA CMP D (R162). -/
def execCmpD (s : State) : Out := cmpWith (s.readOperand (.r .d)) 1 s

/-- 0xBB CMP E (R162). -/
def execCmpE (s : State) : Out := cmpWith (s.readOperand (.r .e)) 1 s

/-- 0xBC CMP H (R162). -/
def execCmpH (s : State) : Out := cmpWith (s.readOperand (.r .h)) 1 s

/-- 0xBD CMP L (R162). -/
def execCmpL (s : State) : Out := cmpWith (s.readOperand (.r .l)) 1 s

/-- 0xBE CMP M (R163). -/
def execCmpM (s : State) : Out := cmpWith (s.readOperand .m) 1 s

/-- 0xBF CMP A (R162). -/
def execCmpA (s : State) : Out := cmpWith (s.readOperand (.r .a)) 1 s

/-- 0xC6 ADI d8 (R152). -/
def execAdi (d8 : Byte) (s : State) : Out := addWith d8 2 s

/-- 0xCE ACI d8 (R155). -/
def execAci (d8 : Byte) (s : State) : Out := adcWith d8 2 s

/-- 0xD6 SUI d8 (R158). -/
def execSui (d8 : Byte) (s : State) : Out := subWith d8 2 s

/-- 0xDE SBI d8 (R161). -/
def execSbi (d8 : Byte) (s : State) : Out := sbbWith d8 2 s

/-- 0xFE CPI d8 (R164). -/
def execCpi (d8 : Byte) (s : State) : Out := cmpWith d8 2 s

end Sys2Proof.Machine
end

