-- ==== Sys2Proof/Machine/Control.lean ====
section
/-! DEFINITION. Control transfer (spec/44_control_transfer.md R200 to R207). Targets are absolute; no flag and no INTE is written; nothing
faults. -/

namespace Sys2Proof.Machine

/-- Jccc: the target, or `npc = PC0 + 3` (R201). -/
def jumpIf (cond : Cond) (a16 : Word) (s : State) : Out := if s.flags.cond cond then jump a16 s else advance 3 s

/-- CALL: `Push16(npc)` with `npc = PC0 + 3`, then the target (R202). -/
def callTo (a16 : Word) (s : State) : Out := callThrough 3 a16 s

/-- Cccc: a call, or `npc` with no push (R203). -/
def callIf (cond : Cond) (a16 : Word) (s : State) : Out := if s.flags.cond cond then callTo a16 s else advance 3 s

/-- Rccc: a return, or `npc = PC0 + 1` with no memory read (R205). -/
def returnIf (cond : Cond) (s : State) : Out := if s.flags.cond cond then returnFromCall s else advance 1 s

/-- RST n: `Push16(npc)` with `npc = PC0 + 1`, then `8 * n` (R206). -/
def restart (n : Nat) (s : State) : Out := callThrough 1 (vectorAddress n) s

/-- 0xC0 RNZ (R205). -/
def execRnz (s : State) : Out := returnIf .nz s

/-- 0xC2 JNZ a16 (R201). -/
def execJnz (a16 : Word) (s : State) : Out := jumpIf .nz a16 s

/-- 0xC3 JMP a16 (R200). -/
def execJmp (a16 : Word) (s : State) : Out := jump a16 s

/-- 0xC4 CNZ a16 (R203). -/
def execCnz (a16 : Word) (s : State) : Out := callIf .nz a16 s

/-- 0xC7 RST 0 (R206). -/
def execRst0 (s : State) : Out := restart 0 s

/-- 0xC8 RZ (R205). -/
def execRz (s : State) : Out := returnIf .z s

/-- 0xC9 RET (R204). -/
def execRet (s : State) : Out := returnFromCall s

/-- 0xCA JZ a16 (R201). -/
def execJz (a16 : Word) (s : State) : Out := jumpIf .z a16 s

/-- 0xCC CZ a16 (R203). -/
def execCz (a16 : Word) (s : State) : Out := callIf .z a16 s

/-- 0xCD CALL a16 (R202). -/
def execCall (a16 : Word) (s : State) : Out := callTo a16 s

/-- 0xCF RST 1 (R206). -/
def execRst1 (s : State) : Out := restart 1 s

/-- 0xD0 RNC (R205). -/
def execRnc (s : State) : Out := returnIf .nc s

/-- 0xD2 JNC a16 (R201). -/
def execJnc (a16 : Word) (s : State) : Out := jumpIf .nc a16 s

/-- 0xD4 CNC a16 (R203). -/
def execCnc (a16 : Word) (s : State) : Out := callIf .nc a16 s

/-- 0xD7 RST 2 (R206). -/
def execRst2 (s : State) : Out := restart 2 s

/-- 0xD8 RC (R205). -/
def execRc (s : State) : Out := returnIf .c s

/-- 0xDA JC a16 (R201). -/
def execJc (a16 : Word) (s : State) : Out := jumpIf .c a16 s

/-- 0xDC CC a16 (R203). -/
def execCc (a16 : Word) (s : State) : Out := callIf .c a16 s

/-- 0xDF RST 3 (R206). -/
def execRst3 (s : State) : Out := restart 3 s

/-- 0xE0 RPO (R205). -/
def execRpo (s : State) : Out := returnIf .po s

/-- 0xE2 JPO a16 (R201). -/
def execJpo (a16 : Word) (s : State) : Out := jumpIf .po a16 s

/-- 0xE4 CPO a16 (R203). -/
def execCpo (a16 : Word) (s : State) : Out := callIf .po a16 s

/-- 0xE7 RST 4 (R206). -/
def execRst4 (s : State) : Out := restart 4 s

/-- 0xE8 RPE (R205). -/
def execRpe (s : State) : Out := returnIf .pe s

/-- 0xE9 PCHL (R207). -/
def execPchl (s : State) : Out := jump s.hl s

/-- 0xEA JPE a16 (R201). -/
def execJpe (a16 : Word) (s : State) : Out := jumpIf .pe a16 s

/-- 0xEC CPE a16 (R203). -/
def execCpe (a16 : Word) (s : State) : Out := callIf .pe a16 s

/-- 0xEF RST 5 (R206). -/
def execRst5 (s : State) : Out := restart 5 s

/-- 0xF0 RP (R205). -/
def execRp (s : State) : Out := returnIf .p s

/-- 0xF2 JP a16 (R201). -/
def execJp (a16 : Word) (s : State) : Out := jumpIf .p a16 s

/-- 0xF4 CP a16 (R203). -/
def execCp (a16 : Word) (s : State) : Out := callIf .p a16 s

/-- 0xF7 RST 6 (R206). -/
def execRst6 (s : State) : Out := restart 6 s

/-- 0xF8 RM (R205). -/
def execRm (s : State) : Out := returnIf .m s

/-- 0xFA JM a16 (R201). -/
def execJm (a16 : Word) (s : State) : Out := jumpIf .m a16 s

/-- 0xFC CM a16 (R203). -/
def execCm (a16 : Word) (s : State) : Out := callIf .m a16 s

/-- 0xFF RST 7 (R206). -/
def execRst7 (s : State) : Out := restart 7 s

end Sys2Proof.Machine
end

