-- ==== Sys2Proof/Machine/Logical.lean ====
section
/-! DEFINITION. Logical, rotate and carry instructions (spec/43_logical_rotate.md R180 to R195). None writes INTE; nothing faults. `x` is the
operand (a register, the byte at HL, or d8) and `len` the instruction's length. -/

namespace Sys2Proof.Machine

/-- ANA, ANI: A <- Logic8(A & x) (R180, R181, R182). -/
def anaWith (x : Byte) (len : Word) (s : State) : Out := advance len (s.withAlu (logic8 (s.a &&& x) s.flags))

/-- XRA, XRI: A <- Logic8(A ^ x) (R183, R184, R185). -/
def xraWith (x : Byte) (len : Word) (s : State) : Out := advance len (s.withAlu (logic8 (s.a ^^^ x) s.flags))

/-- ORA, ORI: A <- Logic8(A | x) (R186, R187, R188). -/
def oraWith (x : Byte) (len : Word) (s : State) : Out := advance len (s.withAlu (logic8 (s.a ||| x) s.flags))

/-- RLC (R189). -/
def rotateLeft (s : State) : Out := advance 1 (s.withAlu (rlc8 s.a s.flags))

/-- RRC (R190). -/
def rotateRight (s : State) : Out := advance 1 (s.withAlu (rrc8 s.a s.flags))

/-- RAL (R191). -/
def rotateLeftThroughCarry (s : State) : Out := advance 1 (s.withAlu (ral8 s.a s.flags))

/-- RAR (R192). -/
def rotateRightThroughCarry (s : State) : Out := advance 1 (s.withAlu (rar8 s.a s.flags))

/-- CMA: A <- ~A, no flag (R193). -/
def complementA (s : State) : Out := advance 1 { s with a := ~~~s.a }

/-- CMC: CY <- not CY (R194). -/
def complementCarry (s : State) : Out := advance 1 { s with flags := { s.flags with cy := !s.flags.cy } }

/-- STC: CY <- true (R195). -/
def setCarry (s : State) : Out := advance 1 { s with flags := { s.flags with cy := true } }

/-- 0x07 RLC (R189). -/
def execRlc (s : State) : Out := rotateLeft s

/-- 0x0F RRC (R190). -/
def execRrc (s : State) : Out := rotateRight s

/-- 0x17 RAL (R191). -/
def execRal (s : State) : Out := rotateLeftThroughCarry s

/-- 0x1F RAR (R192). -/
def execRar (s : State) : Out := rotateRightThroughCarry s

/-- 0x2F CMA (R193). -/
def execCma (s : State) : Out := complementA s

/-- 0x37 STC (R195). -/
def execStc (s : State) : Out := setCarry s

/-- 0x3F CMC (R194). -/
def execCmc (s : State) : Out := complementCarry s

/-- 0xA0 ANA B (R180). -/
def execAnaB (s : State) : Out := anaWith (s.readOperand (.r .b)) 1 s

/-- 0xA1 ANA C (R180). -/
def execAnaC (s : State) : Out := anaWith (s.readOperand (.r .c)) 1 s

/-- 0xA2 ANA D (R180). -/
def execAnaD (s : State) : Out := anaWith (s.readOperand (.r .d)) 1 s

/-- 0xA3 ANA E (R180). -/
def execAnaE (s : State) : Out := anaWith (s.readOperand (.r .e)) 1 s

/-- 0xA4 ANA H (R180). -/
def execAnaH (s : State) : Out := anaWith (s.readOperand (.r .h)) 1 s

/-- 0xA5 ANA L (R180). -/
def execAnaL (s : State) : Out := anaWith (s.readOperand (.r .l)) 1 s

/-- 0xA6 ANA M (R181). -/
def execAnaM (s : State) : Out := anaWith (s.readOperand .m) 1 s

/-- 0xA7 ANA A (R180). -/
def execAnaA (s : State) : Out := anaWith (s.readOperand (.r .a)) 1 s

/-- 0xA8 XRA B (R183). -/
def execXraB (s : State) : Out := xraWith (s.readOperand (.r .b)) 1 s

/-- 0xA9 XRA C (R183). -/
def execXraC (s : State) : Out := xraWith (s.readOperand (.r .c)) 1 s

/-- 0xAA XRA D (R183). -/
def execXraD (s : State) : Out := xraWith (s.readOperand (.r .d)) 1 s

/-- 0xAB XRA E (R183). -/
def execXraE (s : State) : Out := xraWith (s.readOperand (.r .e)) 1 s

/-- 0xAC XRA H (R183). -/
def execXraH (s : State) : Out := xraWith (s.readOperand (.r .h)) 1 s

/-- 0xAD XRA L (R183). -/
def execXraL (s : State) : Out := xraWith (s.readOperand (.r .l)) 1 s

/-- 0xAE XRA M (R184). -/
def execXraM (s : State) : Out := xraWith (s.readOperand .m) 1 s

/-- 0xAF XRA A (R183). -/
def execXraA (s : State) : Out := xraWith (s.readOperand (.r .a)) 1 s

/-- 0xB0 ORA B (R186). -/
def execOraB (s : State) : Out := oraWith (s.readOperand (.r .b)) 1 s

/-- 0xB1 ORA C (R186). -/
def execOraC (s : State) : Out := oraWith (s.readOperand (.r .c)) 1 s

/-- 0xB2 ORA D (R186). -/
def execOraD (s : State) : Out := oraWith (s.readOperand (.r .d)) 1 s

/-- 0xB3 ORA E (R186). -/
def execOraE (s : State) : Out := oraWith (s.readOperand (.r .e)) 1 s

/-- 0xB4 ORA H (R186). -/
def execOraH (s : State) : Out := oraWith (s.readOperand (.r .h)) 1 s

/-- 0xB5 ORA L (R186). -/
def execOraL (s : State) : Out := oraWith (s.readOperand (.r .l)) 1 s

/-- 0xB6 ORA M (R187). -/
def execOraM (s : State) : Out := oraWith (s.readOperand .m) 1 s

/-- 0xB7 ORA A (R186). -/
def execOraA (s : State) : Out := oraWith (s.readOperand (.r .a)) 1 s

/-- 0xE6 ANI d8 (R182). -/
def execAni (d8 : Byte) (s : State) : Out := anaWith d8 2 s

/-- 0xEE XRI d8 (R185). -/
def execXri (d8 : Byte) (s : State) : Out := xraWith d8 2 s

/-- 0xF6 ORI d8 (R188). -/
def execOri (d8 : Byte) (s : State) : Out := oraWith d8 2 s

end Sys2Proof.Machine
end

