-- ==== Sys2Proof/Machine/StackMachine.lean ====
section
/-! DEFINITION. Stack, machine control, and the unimplemented opcodes (spec/45_stack_io_machine.md R220 to R233). -/

namespace Sys2Proof.Machine

/-- PUSH BC, DE, HL, or PSW, the last being `{A, PackPSW()}` (R220, R221). -/
def pushPair (rp : PairName) (s : State) : Out := advance 1 (s.push16 (s.pair rp))

/-- POP BC, DE, HL, or PSW, the last through `UnpackPSW` (R222, R223). -/
def popPair (rp : PairName) (s : State) : Out := advance 1 (s.dropTop.setPair rp s.top16)

/-- XTHL: both bytes are read, then L is written at SP and H at SP+1; SP is not changed (R224). -/
def exchangeHLStack (s : State) : Out := advance 1 ((s.memWrite16 s.sp s.hl).setPair .hl s.top16)

/-- SPHL: SP <- HL (R225). -/
def loadSPFromHL (s : State) : Out := advance 1 { s with sp := s.hl }

/-- EI, DI: INTE takes the value at once, with no delay (R226, R227). -/
def setInterruptEnable (on : Bool) (s : State) : Out := advance 1 { s with inte := on }

/-- HLT: the result is Halted and PC advances by 1; nothing else changes and no halted latch is kept (R228, R254). -/
def halt (s : State) : Out := .next { s with pc := s.pc + 1, result := .halted }

/-- 0x00 NOP (R229). -/
def execNop (s : State) : Out := noOperation s

/-- 0x08 NOP (R230). -/
def execNop08 (s : State) : Out := noOperation s

/-- 0x10 NOP (R230). -/
def execNop10 (s : State) : Out := noOperation s

/-- 0x18 NOP (R230). -/
def execNop18 (s : State) : Out := noOperation s

/-- 0x20 NOP (R230). -/
def execNop20 (s : State) : Out := noOperation s

/-- 0x28 NOP (R230). -/
def execNop28 (s : State) : Out := noOperation s

/-- 0x30 NOP (R230). -/
def execNop30 (s : State) : Out := noOperation s

/-- 0x38 NOP (R230). -/
def execNop38 (s : State) : Out := noOperation s

/-- 0x76 HLT (R228). -/
def execHlt (s : State) : Out := halt s

/-- 0xC1 POP B (R222). -/
def execPopB (s : State) : Out := popPair .bc s

/-- 0xC5 PUSH B (R220). -/
def execPushB (s : State) : Out := pushPair .bc s

/-- 0xCB unimplemented (R233). -/
def execUnimplCB (s : State) : Out := raiseUnimplemented 0xCB s

/-- 0xD1 POP D (R222). -/
def execPopD (s : State) : Out := popPair .de s

/-- 0xD3 OUT (R232). -/
def execOutPort (s : State) : Out := raiseUnimplemented 0xD3 s

/-- 0xD5 PUSH D (R220). -/
def execPushD (s : State) : Out := pushPair .de s

/-- 0xD9 unimplemented (R233). -/
def execUnimplD9 (s : State) : Out := raiseUnimplemented 0xD9 s

/-- 0xDB IN (R231). -/
def execInPort (s : State) : Out := raiseUnimplemented 0xDB s

/-- 0xDD unimplemented (R233). -/
def execUnimplDD (s : State) : Out := raiseUnimplemented 0xDD s

/-- 0xE1 POP H (R222). -/
def execPopH (s : State) : Out := popPair .hl s

/-- 0xE3 XTHL (R224). -/
def execXthl (s : State) : Out := exchangeHLStack s

/-- 0xE5 PUSH H (R220). -/
def execPushH (s : State) : Out := pushPair .hl s

/-- 0xED unimplemented (R233). -/
def execUnimplED (s : State) : Out := raiseUnimplemented 0xED s

/-- 0xF1 POP PSW (R223). -/
def execPopPSW (s : State) : Out := popPair .psw s

/-- 0xF3 DI (R227). -/
def execDi (s : State) : Out := setInterruptEnable false s

/-- 0xF5 PUSH PSW (R221). -/
def execPushPSW (s : State) : Out := pushPair .psw s

/-- 0xF9 SPHL (R225). -/
def execSphl (s : State) : Out := loadSPFromHL s

/-- 0xFB EI (R226). -/
def execEi (s : State) : Out := setInterruptEnable true s

/-- 0xFD unimplemented (R233). -/
def execUnimplFD (s : State) : Out := raiseUnimplemented 0xFD s

end Sys2Proof.Machine
end

