-- ==== Sys2Proof/Machine/Transfer.lean ====
section
/-! DEFINITION. Data transfer (spec/41_data_transfer.md R130 to R142). No flag and no INTE is written; nothing faults. -/

namespace Sys2Proof.Machine

/-- MOV: both sides go through the resolver (R130, R131, R132; R11). -/
def move (dst src : Operand) (s : State) : Out := advance 1 (s.writeOperand dst (s.readOperand src))

/-- MVI (R133, R134). -/
def moveImmediate (dst : Operand) (d8 : Byte) (s : State) : Out := advance 2 (s.writeOperand dst d8)

/-- LXI (R135). -/
def loadPairImmediate (rp : PairName) (d16 : Word) (s : State) : Out := advance 3 (s.setPair rp d16)

/-- LDA (R136). -/
def loadDirect (a16 : Word) (s : State) : Out := advance 3 { s with a := s.memRead a16 }

/-- STA (R137). -/
def storeDirect (a16 : Word) (s : State) : Out := advance 3 (s.memWrite a16 s.a)

/-- LHLD: L from a16, H from a16 + 1 (R138). -/
def loadHLDirect (a16 : Word) (s : State) : Out := advance 3 (s.setPair .hl (s.memRead16 a16))

/-- SHLD: L to a16, H to a16 + 1 (R139). -/
def storeHLDirect (a16 : Word) (s : State) : Out := advance 3 (s.memWrite16 a16 s.hl)

/-- LDAX (R140). -/
def loadIndirect (rp : PairName) (s : State) : Out := advance 1 { s with a := s.memRead (s.pair rp) }

/-- STAX (R141). -/
def storeIndirect (rp : PairName) (s : State) : Out := advance 1 (s.memWrite (s.pair rp) s.a)

/-- XCHG: h0 = H, l0 = L; H <- D, L <- E, D <- h0, E <- l0 (R142). -/
def exchangeHLDE (s : State) : Out := advance 1 { s with h := s.d, l := s.e, d := s.h, e := s.l }

/-- 0x01 LXI B,d16 (R135). -/
def execLxiB (d16 : Word) (s : State) : Out := loadPairImmediate .bc d16 s

/-- 0x02 STAX B (R141). -/
def execStaxB (s : State) : Out := storeIndirect .bc s

/-- 0x06 MVI B,d8 (R133). -/
def execMviB (d8 : Byte) (s : State) : Out := moveImmediate (.r .b) d8 s

/-- 0x0A LDAX B (R140). -/
def execLdaxB (s : State) : Out := loadIndirect .bc s

/-- 0x0E MVI C,d8 (R133). -/
def execMviC (d8 : Byte) (s : State) : Out := moveImmediate (.r .c) d8 s

/-- 0x11 LXI D,d16 (R135). -/
def execLxiD (d16 : Word) (s : State) : Out := loadPairImmediate .de d16 s

/-- 0x12 STAX D (R141). -/
def execStaxD (s : State) : Out := storeIndirect .de s

/-- 0x16 MVI D,d8 (R133). -/
def execMviD (d8 : Byte) (s : State) : Out := moveImmediate (.r .d) d8 s

/-- 0x1A LDAX D (R140). -/
def execLdaxD (s : State) : Out := loadIndirect .de s

/-- 0x1E MVI E,d8 (R133). -/
def execMviE (d8 : Byte) (s : State) : Out := moveImmediate (.r .e) d8 s

/-- 0x21 LXI H,d16 (R135). -/
def execLxiH (d16 : Word) (s : State) : Out := loadPairImmediate .hl d16 s

/-- 0x22 SHLD a16 (R139). -/
def execShld (a16 : Word) (s : State) : Out := storeHLDirect a16 s

/-- 0x26 MVI H,d8 (R133). -/
def execMviH (d8 : Byte) (s : State) : Out := moveImmediate (.r .h) d8 s

/-- 0x2A LHLD a16 (R138). -/
def execLhld (a16 : Word) (s : State) : Out := loadHLDirect a16 s

/-- 0x2E MVI L,d8 (R133). -/
def execMviL (d8 : Byte) (s : State) : Out := moveImmediate (.r .l) d8 s

/-- 0x31 LXI SP,d16 (R135). -/
def execLxiSP (d16 : Word) (s : State) : Out := loadPairImmediate .sp d16 s

/-- 0x32 STA a16 (R137). -/
def execSta (a16 : Word) (s : State) : Out := storeDirect a16 s

/-- 0x36 MVI M,d8 (R134). -/
def execMviM (d8 : Byte) (s : State) : Out := moveImmediate .m d8 s

/-- 0x3A LDA a16 (R136). -/
def execLda (a16 : Word) (s : State) : Out := loadDirect a16 s

/-- 0x3E MVI A,d8 (R133). -/
def execMviA (d8 : Byte) (s : State) : Out := moveImmediate (.r .a) d8 s

/-- 0x40 MOV B,B (R130). -/
def execMovBB (s : State) : Out := move (.r .b) (.r .b) s

/-- 0x41 MOV B,C (R130). -/
def execMovBC (s : State) : Out := move (.r .b) (.r .c) s

/-- 0x42 MOV B,D (R130). -/
def execMovBD (s : State) : Out := move (.r .b) (.r .d) s

/-- 0x43 MOV B,E (R130). -/
def execMovBE (s : State) : Out := move (.r .b) (.r .e) s

/-- 0x44 MOV B,H (R130). -/
def execMovBH (s : State) : Out := move (.r .b) (.r .h) s

/-- 0x45 MOV B,L (R130). -/
def execMovBL (s : State) : Out := move (.r .b) (.r .l) s

/-- 0x46 MOV B,M (R131). -/
def execMovBM (s : State) : Out := move (.r .b) .m s

/-- 0x47 MOV B,A (R130). -/
def execMovBA (s : State) : Out := move (.r .b) (.r .a) s

/-- 0x48 MOV C,B (R130). -/
def execMovCB (s : State) : Out := move (.r .c) (.r .b) s

/-- 0x49 MOV C,C (R130). -/
def execMovCC (s : State) : Out := move (.r .c) (.r .c) s

/-- 0x4A MOV C,D (R130). -/
def execMovCD (s : State) : Out := move (.r .c) (.r .d) s

/-- 0x4B MOV C,E (R130). -/
def execMovCE (s : State) : Out := move (.r .c) (.r .e) s

/-- 0x4C MOV C,H (R130). -/
def execMovCH (s : State) : Out := move (.r .c) (.r .h) s

/-- 0x4D MOV C,L (R130). -/
def execMovCL (s : State) : Out := move (.r .c) (.r .l) s

/-- 0x4E MOV C,M (R131). -/
def execMovCM (s : State) : Out := move (.r .c) .m s

/-- 0x4F MOV C,A (R130). -/
def execMovCA (s : State) : Out := move (.r .c) (.r .a) s

/-- 0x50 MOV D,B (R130). -/
def execMovDB (s : State) : Out := move (.r .d) (.r .b) s

/-- 0x51 MOV D,C (R130). -/
def execMovDC (s : State) : Out := move (.r .d) (.r .c) s

/-- 0x52 MOV D,D (R130). -/
def execMovDD (s : State) : Out := move (.r .d) (.r .d) s

/-- 0x53 MOV D,E (R130). -/
def execMovDE (s : State) : Out := move (.r .d) (.r .e) s

/-- 0x54 MOV D,H (R130). -/
def execMovDH (s : State) : Out := move (.r .d) (.r .h) s

/-- 0x55 MOV D,L (R130). -/
def execMovDL (s : State) : Out := move (.r .d) (.r .l) s

/-- 0x56 MOV D,M (R131). -/
def execMovDM (s : State) : Out := move (.r .d) .m s

/-- 0x57 MOV D,A (R130). -/
def execMovDA (s : State) : Out := move (.r .d) (.r .a) s

/-- 0x58 MOV E,B (R130). -/
def execMovEB (s : State) : Out := move (.r .e) (.r .b) s

/-- 0x59 MOV E,C (R130). -/
def execMovEC (s : State) : Out := move (.r .e) (.r .c) s

/-- 0x5A MOV E,D (R130). -/
def execMovED (s : State) : Out := move (.r .e) (.r .d) s

/-- 0x5B MOV E,E (R130). -/
def execMovEE (s : State) : Out := move (.r .e) (.r .e) s

/-- 0x5C MOV E,H (R130). -/
def execMovEH (s : State) : Out := move (.r .e) (.r .h) s

/-- 0x5D MOV E,L (R130). -/
def execMovEL (s : State) : Out := move (.r .e) (.r .l) s

/-- 0x5E MOV E,M (R131). -/
def execMovEM (s : State) : Out := move (.r .e) .m s

/-- 0x5F MOV E,A (R130). -/
def execMovEA (s : State) : Out := move (.r .e) (.r .a) s

/-- 0x60 MOV H,B (R130). -/
def execMovHB (s : State) : Out := move (.r .h) (.r .b) s

/-- 0x61 MOV H,C (R130). -/
def execMovHC (s : State) : Out := move (.r .h) (.r .c) s

/-- 0x62 MOV H,D (R130). -/
def execMovHD (s : State) : Out := move (.r .h) (.r .d) s

/-- 0x63 MOV H,E (R130). -/
def execMovHE (s : State) : Out := move (.r .h) (.r .e) s

/-- 0x64 MOV H,H (R130). -/
def execMovHH (s : State) : Out := move (.r .h) (.r .h) s

/-- 0x65 MOV H,L (R130). -/
def execMovHL (s : State) : Out := move (.r .h) (.r .l) s

/-- 0x66 MOV H,M (R131). -/
def execMovHM (s : State) : Out := move (.r .h) .m s

/-- 0x67 MOV H,A (R130). -/
def execMovHA (s : State) : Out := move (.r .h) (.r .a) s

/-- 0x68 MOV L,B (R130). -/
def execMovLB (s : State) : Out := move (.r .l) (.r .b) s

/-- 0x69 MOV L,C (R130). -/
def execMovLC (s : State) : Out := move (.r .l) (.r .c) s

/-- 0x6A MOV L,D (R130). -/
def execMovLD (s : State) : Out := move (.r .l) (.r .d) s

/-- 0x6B MOV L,E (R130). -/
def execMovLE (s : State) : Out := move (.r .l) (.r .e) s

/-- 0x6C MOV L,H (R130). -/
def execMovLH (s : State) : Out := move (.r .l) (.r .h) s

/-- 0x6D MOV L,L (R130). -/
def execMovLL (s : State) : Out := move (.r .l) (.r .l) s

/-- 0x6E MOV L,M (R131). -/
def execMovLM (s : State) : Out := move (.r .l) .m s

/-- 0x6F MOV L,A (R130). -/
def execMovLA (s : State) : Out := move (.r .l) (.r .a) s

/-- 0x70 MOV M,B (R132). -/
def execMovMB (s : State) : Out := move .m (.r .b) s

/-- 0x71 MOV M,C (R132). -/
def execMovMC (s : State) : Out := move .m (.r .c) s

/-- 0x72 MOV M,D (R132). -/
def execMovMD (s : State) : Out := move .m (.r .d) s

/-- 0x73 MOV M,E (R132). -/
def execMovME (s : State) : Out := move .m (.r .e) s

/-- 0x74 MOV M,H (R132). -/
def execMovMH (s : State) : Out := move .m (.r .h) s

/-- 0x75 MOV M,L (R132). -/
def execMovML (s : State) : Out := move .m (.r .l) s

/-- 0x77 MOV M,A (R132). -/
def execMovMA (s : State) : Out := move .m (.r .a) s

/-- 0x78 MOV A,B (R130). -/
def execMovAB (s : State) : Out := move (.r .a) (.r .b) s

/-- 0x79 MOV A,C (R130). -/
def execMovAC (s : State) : Out := move (.r .a) (.r .c) s

/-- 0x7A MOV A,D (R130). -/
def execMovAD (s : State) : Out := move (.r .a) (.r .d) s

/-- 0x7B MOV A,E (R130). -/
def execMovAE (s : State) : Out := move (.r .a) (.r .e) s

/-- 0x7C MOV A,H (R130). -/
def execMovAH (s : State) : Out := move (.r .a) (.r .h) s

/-- 0x7D MOV A,L (R130). -/
def execMovAL (s : State) : Out := move (.r .a) (.r .l) s

/-- 0x7E MOV A,M (R131). -/
def execMovAM (s : State) : Out := move (.r .a) .m s

/-- 0x7F MOV A,A (R130). -/
def execMovAA (s : State) : Out := move (.r .a) (.r .a) s

/-- 0xEB XCHG (R142). -/
def execXchg (s : State) : Out := exchangeHLDE s

end Sys2Proof.Machine
end

