-- ==== Sys2Proof/Machine/Step.lean ====
section
/-! DEFINITION. One step: fetch, decode, execute, the PC update being part of each meaning (spec/30_encoding.md R86; R26 of
10_state.md). The step has no other effect: it does not sample interrupts (R259). -/

namespace Sys2Proof.Machine

/-- "One call executes exactly one instruction" (R86). -/
def step (s : State) : Host.Outcome State Fault Refusal := exec (fetch s) s

/-- The state with an instruction stored where the next step fetches it: at PC, PC+1 and PC+2 (R57), every bit above `nbits`
zero. Nothing else changes (log 6). -/
def State.withFetchWord (s : State) (nbits w : Nat) : State :=
  s.storeBytes s.pc (tableWordBytes 3 (w % 2 ^ nbits))

end Sys2Proof.Machine
end

