-- ==== Sys2Proof/Machine/Operations.lean ====
section
/-! DEFINITION. What the host does to the block (spec/10_state.md R26, R27, R29, R30; spec/60_exceptions.md R256 to R259, R267, R268;
spec/70_reset_and_hazards.md R280, R283): operations, one after another, and the run they make. -/

namespace Sys2Proof.Machine

/-- The reset operation: PC <- 0, INTE <- false, AC <- false; every other register and flag and memory keep their values
(R24, R280). -/
def State.applyReset (s : State) : State :=
  { s with pc := Config.resetPC, inte := Config.resetINTE, flags := { s.flags with ac := Config.resetAC } }

/-- A write of the host between operations: PC and SP, and, since it owns the record, any other piece of state (R29; D19), and
memory (R268). -/
inductive HostWrite where
  | reg (r : Reg) (v : Byte)
  | sp (v : Word)
  | pc (v : Word)
  | flags (f : Flags)
  | inte (v : Bool)
  | mem (addr : Word) (v : Byte)
  deriving DecidableEq, Repr

/-- The state after a host write. -/
def HostWrite.apply (w : HostWrite) (s : State) : State :=
  match w with
  | .reg r v => s.setReg r v
  | .sp v => { s with sp := v }
  | .pc v => { s with pc := v }
  | .flags f => { s with flags := f }
  | .inte v => { s with inte := v }
  | .mem addr v => s.memWrite addr v

/-- The operations of the block's interface, each atomic and none overlapping another (R26, R27, R29, R30, R283). -/
inductive Operation where
  | step
  | interrupt (vector : Nat)
  | reset
  | write (w : HostWrite)
  deriving DecidableEq, Repr

/-- One operation. -/
def perform (op : Operation) (s : State) : Out :=
  match op with
  | .step => step s
  | .interrupt vector => interrupt vector s
  | .reset => .next s.applyReset
  | .write w => .next (w.apply s)

/-- The step result an outcome reports (R26, R255): a next state's own, or Unimplemented of the faulting opcode; none for an
error of the interrupt operation. -/
def stepResult : Out → Option StepResult
  | .next s => some s.result
  | .fault (.unimplemented op) => some (.unimplemented op)
  | .fault .invalidInterrupt => none
  | .refused _ => none

/-- The state after one operation. An operation that fails changes nothing: after `Unimplemented` the state is the one before the
step, with PC on the opcode (R251, R260), and `InvalidInterrupt` has no effect (R252). So the host may go on after either. -/
def stateAfter (op : Operation) (s : State) : State :=
  match perform op s with
  | .next t => t
  | .fault _ => s
  | .refused _ => s

/-- The result an operation reports: a step's own (R26); the interrupt operation, reset and a host write have none, and
`InvalidInterrupt` is an error of its operation, not a step result (R252, R255, K-16). -/
def operationResult (op : Operation) (s : State) : Option StepResult :=
  match op with
  | .step => stepResult (step s)
  | .interrupt _ => none
  | .reset => none
  | .write _ => none

/-- The state after the operations of a schedule, one after another in the order the host issues them (R53, R259, R267). It never
stops by itself: the host may issue a further operation after any result, `Halted` and `Unimplemented` included (R259, R265, R287). -/
def performAll : List Operation → State → State
  | [], s => s
  | op :: rest, s => performAll rest (stateAfter op s)

/-- How a run ends (R267): normally, in the state after the step that halted, or in the fault `Unimplemented(op)`, in the state before
that step. -/
inductive RunEnd where
  | halted (final : State)
  | unimplemented (op : Byte) (final : State)
  deriving DecidableEq, Repr

/-- The end of the run that a schedule makes from a launch state: "the first step whose result is not `Continue`" (R267). Interrupts,
resets and host writes stand among the steps and end nothing; `none` where no step of the schedule ends the run. -/
def runEnd : List Operation → State → Option RunEnd
  | [], _ => none
  | op :: rest, s =>
    match operationResult op s with
    | some .halted => some (.halted (stateAfter op s))
    | some (.unimplemented byte) => some (.unimplemented byte s)
    | some .cont => runEnd rest (stateAfter op s)
    | none => runEnd rest (stateAfter op s)

/-- Instructions executed one after another, whatever stands in memory: for laws about pairs of instructions. -/
def execAll : List Instr → State → Out
  | [], s => .next s
  | i :: rest, s =>
    match exec i s with
    | .next t => execAll rest t
    | .fault r => .fault r
    | .refused r => .refused r

end Sys2Proof.Machine
end

