-- ==== Sys2Proof/Machine/Bus.lean ====
section
/-! DEFINITION. The byte transactions on the memory port, in their order (spec/20_memory.md R56, R57, R47, R51, R52; R28, R30 of
10_state.md): instruction bytes, then data reads, then data writes. With plain memory the order is not observable (R56), so it is not part of
State (log 7). -/

namespace Sys2Proof.Machine

/-- One transaction: a byte read at an address, or a byte written (R28, R47). -/
inductive Transaction where
  | read (addr : Word)
  | write (addr : Word) (v : Byte)
  deriving DecidableEq, Repr

/-- The two writes of `Push16(v)`: the high byte at SP-1 first (R51). -/
def pushWrites (s : State) (v : Word) : List (Word × Byte) := [(s.sp - 1, hiByte v), (s.sp - 2, loByte v)]

/-- The two reads of `Pop16()`: the low byte first (R52). -/
def popReads (s : State) : List Word := [s.sp, s.sp + 1]

/-- The data reads of an instruction, in order (R56). -/
def dataReads (i : Instr) (s : State) : List Word :=
  match i.asm with
  | .mov _ .m => [s.hl]
  | .lda a16 => [a16]
  | .lhld a16 => [a16, a16 + 1]
  | .ldax rp => [s.pair rp]
  | .alu _ .m => [s.hl]
  | .inr .m => [s.hl]
  | .dcr .m => [s.hl]
  | .ret => popReads s
  | .rcc cond => if s.flags.cond cond then popReads s else []
  | .pop _ => popReads s
  | .xthl => [s.sp, s.sp + 1]
  | _ => []

/-- The data writes of an instruction, in order, with the bytes written (R56). -/
def dataWrites (i : Instr) (s : State) : List (Word × Byte) :=
  match i.asm with
  | .mov .m src => [(s.hl, s.readOperand src)]
  | .mvi .m d8 => [(s.hl, d8)]
  | .sta a16 => [(a16, s.a)]
  | .shld a16 => [(a16, s.l), (a16 + 1, s.h)]
  | .stax rp => [(s.pair rp, s.a)]
  | .inr .m => [(s.hl, s.memRead s.hl + 1)]
  | .dcr .m => [(s.hl, s.memRead s.hl - 1)]
  | .call _ => pushWrites s (s.pc + 3)
  | .ccc cond _ => if s.flags.cond cond then pushWrites s (s.pc + 3) else []
  | .rst _ => pushWrites s (s.pc + 1)
  | .push rp => pushWrites s (s.pair rp)
  | .xthl => [(s.sp, s.l), (s.sp + 1, s.h)]
  | _ => []

/-- The addresses an instruction fetch reads: as many as the opcode's length (R57). -/
def fetchReads (s : State) : List Word :=
  (List.range (opcodeLength (s.memRead s.pc))).map (fun k => s.pc + BitVec.ofNat 16 k)

/-- The transactions of one step (R56). -/
def stepTransactions (s : State) : List Transaction :=
  (fetchReads s).map .read ++ (dataReads (fetch s) s).map .read ++
    (dataWrites (fetch s) s).map (fun w => .write w.1 w.2)

/-- The transactions of the interrupt operation: two writes and no read when it is taken, none otherwise (R56, R257). -/
def interruptTransactions (vector : Nat) (s : State) : List Transaction :=
  if vector < Config.vectorCount && s.inte then (pushWrites s s.pc).map (fun w => .write w.1 w.2) else []

/-- Memory after a list of byte writes, in order (R53). -/
def applyWrites : List (Word × Byte) → Memory → Memory
  | [], m => m
  | w :: rest, m => applyWrites rest (m.write w.1.toNat w.2)

end Sys2Proof.Machine
end

