-- ==== Sys2Proof/Safety.lean ====
section
/-! DEFINITION. How a run ends, and what every state keeps (spec/60_exceptions.md R267, R251; spec/10_state.md R21, R25). -/

namespace Sys2Proof

open Sys2Proof.Machine

/-- The run that the schedule `ops` makes from `s` ends normally, and `t` is the state after the step that halted (R267). -/
def HaltsIn (ops : List Operation) (s t : State) : Prop := runEnd ops s = some (.halted t)

/-- The run that the schedule `ops` makes from `s` ends in the fault `Unimplemented(op)`, and `t` is the state before that step (R267,
R251). -/
def FaultsIn (ops : List Operation) (s : State) (op : Byte) (t : State) : Prop := runEnd ops s = some (.unimplemented op t)

/-- The run from `s` under an unending schedule has neither end (R267): no finite part of the schedule ends it. -/
def Endless (ops : Nat → Operation) (s : State) : Prop := ∀ n, runEnd ((List.range n).map ops) s = none

/-- The invariant of the model's own data: memory keeps its canonical form. Every combination of register, flag, SP, PC and
INTE values is a legal state (R25), so nothing else is asked. -/
def Inv (s : State) : Prop := s.mem.wf = true

end Sys2Proof
end

