-- ==== Sys2Proof/Certificates/Slice0/Obligations.lean ====
section
/-! DEFINITION. The statements for the provers. Each says in its docstring which rule of spec/ it formalises. Where the spec marks a rule or a
clause of its own ([from general knowledge, not in source], [decision: D<n>], [derived: ...]), the docstring says so. The helpers before
the statements restate tables of the spec in plain terms. In every result statement the next state is an update of the old one, so
whatever the update does not name (registers, SP, flags, INTE) is unchanged; memory is spoken of through reads of one byte. -/

namespace Sys2Proof.Certificates

open Sys2Proof.Machine

/-- Z, S and P are those of the byte `r` (R100, R101): zero; bit 7, that is 128 or more; an even number of set bits. -/
def ZspOf (f : Flags) (r : Byte) : Prop :=
  (f.z = true ↔ r = 0) ∧ (f.s = true ↔ 128 ≤ r.toNat) ∧ (f.p = true ↔ (List.range 8).countP (fun k => r.getLsbD k) % 2 = 0)

/-- The condition table of R75 and R111: one flag each. -/
def condTrue (f : Flags) : Cond → Bool
  | .nz => f.z == false
  | .z => f.z == true
  | .nc => f.cy == false
  | .c => f.cy == true
  | .po => f.p == false
  | .pe => f.p == true
  | .p => f.s == false
  | .m => f.s == true

/-- The operation, the operand and the bytes of an ALU instruction in any of its three forms: register, M, immediate. -/
def aluForm (i : Instr) (s : State) : Option (AluOp × Byte × List Byte) :=
  match i.asm with
  | .alu op (.r r) => some (op, s.reg r, [0b10#2 ++ op.code ++ r.code])
  | .alu op .m => some (op, s.memRead s.hl, [0b10#2 ++ op.code ++ 0b110#3])
  | .aluI op d8 => some (op, d8, [0b11#2 ++ op.code ++ 0b110#3, d8])
  | _ => none

/-- The carry-in of an ALU instruction: Carry for ADC, ACI, SBB, SBI, else 0. -/
def carryIn (op : AluOp) (f : Flags) : Nat :=
  match op with
  | .adc => f.cy.toNat
  | .sbb => f.cy.toNat
  | _ => 0

/-- One bit of the result of a logical instruction. -/
def logicBit : AluOp → Bool → Bool → Bool
  | .ana => fun a x => a && x
  | .xra => fun a x => a ^^ x
  | .ora => fun a x => a || x
  | _ => fun a _ => a

/-- The address stored to, the byte stored and the instruction's bytes, of the instructions that store one byte and do nothing
else: MOV M,r, MVI M, STA and STAX. -/
def oneByteStore (i : Instr) (s : State) : Option (Word × Byte × List Byte) :=
  match i.asm with
  | .mov .m (.r r) => some (s.hl, s.reg r, [0b01110#5 ++ r.code])
  | .mvi .m d8 => some (s.hl, d8, [0x36, d8])
  | .sta a16 => some (a16, s.a, [0x32, loByte a16, hiByte a16])
  | .stax rp => some (s.pair rp, s.a, [0b00#2 ++ rp.code ++ 0b0010#4])
  | _ => none

/-- The return address, the target and the bytes of an instruction that calls in this state: CALL, Cccc with its condition true,
RST. -/
def callForm (i : Instr) (s : State) : Option (Word × Word × List Byte) :=
  match i.asm with
  | .call a16 => some (s.pc + 3, a16, [0xCD, loByte a16, hiByte a16])
  | .ccc cond a16 => if condTrue s.flags cond then some (s.pc + 3, a16, [0b11#2 ++ cond.code ++ 0b100#3, loByte a16, hiByte a16]) else none
  | .rst n => some (s.pc + 1, BitVec.ofNat 16 (8 * n), [0b11#2 ++ BitVec.ofNat 3 n ++ 0b111#3])
  | _ => none

/-- The byte PUSH stores at SP-1: the first-named register of the pair, or A (R220, R221). -/
def pushedHigh (s : State) : PairName → Byte
  | .bc => s.b
  | .de => s.d
  | .hl => s.h
  | .psw => s.a
  | .sp => hiByte s.sp

/-- The byte PUSH stores at SP-2: the second register of the pair, or the status word (R220, R221). -/
def pushedLow (s : State) : PairName → Byte
  | .bc => s.c
  | .de => s.e
  | .hl => s.l
  | .psw => packPSW s.flags
  | .sp => loByte s.sp

/-- Where control goes when it does not go to `npc` (R16). -/
def transferTarget (i : Instr) (s : State) : Option Word :=
  match i.asm with
  | .jmp a16 => some a16
  | .jcc cond a16 => if condTrue s.flags cond then some a16 else none
  | .call a16 => some a16
  | .ccc cond a16 => if condTrue s.flags cond then some a16 else none
  | .ret => some (joinBytes (s.memRead (s.sp + 1)) (s.memRead s.sp))
  | .rcc cond => if condTrue s.flags cond then some (joinBytes (s.memRead (s.sp + 1)) (s.memRead s.sp)) else none
  | .rst n => some (BitVec.ofNat 16 (8 * n))
  | .pchl => some s.hl
  | _ => none

/-- The rows of the table of R18 that set Z, S and P. -/
def writesZSP : Asm → Bool
  | .alu _ _ => true
  | .aluI _ _ => true
  | .inr _ => true
  | .dcr _ => true
  | .pop .psw => true
  | _ => false

/-- The rows of the table of R18 that write CY. -/
def writesCY : Asm → Bool
  | .alu _ _ => true
  | .aluI _ _ => true
  | .dad _ => true
  | .rlc => true
  | .rrc => true
  | .ral => true
  | .rar => true
  | .stc => true
  | .cmc => true
  | .pop .psw => true
  | _ => false

/-- The logical family: ANA, XRA, ORA and their immediate forms. -/
def isLogical : Asm → Bool
  | .alu .ana _ => true
  | .alu .xra _ => true
  | .alu .ora _ => true
  | .aluI .ana _ => true
  | .aluI .xra _ => true
  | .aluI .ora _ => true
  | _ => false

/-- The registers a pair is made of; PSW holds A. -/
def pairRegs : PairName → List Reg
  | .bc => [.b, .c]
  | .de => [.d, .e]
  | .hl => [.h, .l]
  | .sp => []
  | .psw => [.a]

/-- The 8-bit registers an instruction may write: its destination. -/
def destinations : Asm → List Reg
  | .mov (.r dst) _ => [dst]
  | .mvi (.r dst) _ => [dst]
  | .lxi rp _ => pairRegs rp
  | .lda _ => [.a]
  | .lhld _ => [.h, .l]
  | .ldax _ => [.a]
  | .xchg => [.h, .l, .d, .e]
  | .alu .cmp _ => []
  | .alu _ _ => [.a]
  | .aluI .cmp _ => []
  | .aluI _ _ => [.a]
  | .inr (.r dst) => [dst]
  | .dcr (.r dst) => [dst]
  | .inx rp => pairRegs rp
  | .dcx rp => pairRegs rp
  | .dad _ => [.h, .l]
  | .rlc => [.a]
  | .rrc => [.a]
  | .ral => [.a]
  | .rar => [.a]
  | .cma => [.a]
  | .pop rp => pairRegs rp
  | .xthl => [.h, .l]
  | _ => []

/-- SP after an instruction (R14): moved by two by every push and pop, written by LXI SP, INX SP, DCX SP and SPHL. -/
def spAfter (i : Instr) (s : State) : Word :=
  match i.asm with
  | .lxi .sp d16 => d16
  | .inx .sp => s.sp + 1
  | .dcx .sp => s.sp - 1
  | .sphl => s.hl
  | .push _ => s.sp - 2
  | .pop _ => s.sp + 2
  | .call _ => s.sp - 2
  | .ccc cond _ => if condTrue s.flags cond then s.sp - 2 else s.sp
  | .rst _ => s.sp - 2
  | .ret => s.sp + 2
  | .rcc cond => if condTrue s.flags cond then s.sp + 2 else s.sp
  | _ => s.sp

/-- The opcodes of format I1: MVI and the eight immediate ALU instructions (R71). -/
def formatI1 : List Byte :=
  [0x06, 0x0E, 0x16, 0x1E, 0x26, 0x2E, 0x36, 0x3E, 0xC6, 0xCE, 0xD6, 0xDE, 0xE6, 0xEE, 0xF6, 0xFE]

/-- The opcodes of format I2 (R71). -/
def formatI2 : List Byte :=
  [0x01, 0x11, 0x21, 0x31, 0x22, 0x2A, 0x32, 0x3A, 0xC3, 0xCD, 0xC2, 0xCA, 0xD2, 0xDA, 0xE2, 0xEA, 0xF2, 0xFA,
   0xC4, 0xCC, 0xD4, 0xDC, 0xE4, 0xEC, 0xF4, 0xFC]

end Sys2Proof.Certificates

open Sys2Proof Sys2Proof.Machine Sys2Proof.Certificates

/-! Encoding and decoding -/

/-- Decoding the bytes of an instruction, whatever follows them, gives the instruction back with every operand, and leaves what
follows. Derived from R71, R76, R78, R79 of 30_encoding.md (the opcode numbers are the spec's [from general knowledge]). -/
def Obligations.DecodeOfEncodeIsIdentity : Prop :=
  ∀ (i : Instr) (rest : List Byte), decode (encode i ++ rest) = .ok (i, rest)

/-- The other direction, and totality: whatever the decoder reads, the encoder writes the bytes that were read, so no two byte
sequences are one instruction and no byte is dropped; and decoding succeeds exactly where the opcode byte and the operand bytes its length
asks for are there. Derived from R79 ("Decode is total"; the rows are mutually exclusive) and R77. -/
def Obligations.EncodeOfDecodeIsBytesRead : Prop :=
  ∀ bs : List Byte,
    (∀ (i : Instr) (rest : List Byte), decode bs = .ok (i, rest) → encode i ++ rest = bs) ∧
    ((∃ i rest, decode bs = .ok (i, rest)) ↔ ∃ op rest, bs = op :: rest ∧ opcodeLength op ≤ bs.length)

/-- A few words written out bit by bit: the four literals of the source (0x3E MVI A, 0x06 MVI B, 0x80 ADD B, 0xDB IN; R72, R80) and
words of the other families from their Encoding lines (R135, R201, R206, R221, R228). -/
def Obligations.WordsDecodeToTheirInstructions : Prop :=
  decode [0b00111110, 0x05] = .ok (.mviA 0x05, []) ∧
  decode [0b00000110, 0x10] = .ok (.mviB 0x10, []) ∧
  decode [0b10000000] = .ok (.addB, []) ∧
  decode [0b11011011] = .ok (.inPort, []) ∧
  decode [0b00100001, 0x34, 0x12] = .ok (.lxiH 0x1234, []) ∧
  decode [0b11111010, 0x34, 0x12] = .ok (.jm 0x1234, []) ∧
  decode [0b11011111] = .ok (.rst3, []) ∧
  decode [0b11110101] = .ok (.pushPSW, []) ∧
  decode [0b01110110] = .ok (.hlt, [])

/-- R74, R78: the codes of the pairs, of the ALU operations and of the conditions (R75's numbering), and every instruction's bytes are the bit
pattern of its quadrant and family with those codes in their fields. The numbers are the spec's [from general knowledge]. -/
def Obligations.EncodingFollowsFieldPatterns : Prop :=
  ([.bc, .de, .hl, .sp, .psw] : List PairName).map PairName.code = [0b00, 0b01, 0b10, 0b11, 0b11] ∧
  ([.add, .adc, .sub, .sbb, .ana, .xra, .ora, .cmp] : List AluOp).map AluOp.code = [0, 1, 2, 3, 4, 5, 6, 7] ∧
  ([.nz, .z, .nc, .c, .po, .pe, .p, .m] : List Cond).map Cond.code = [0, 1, 2, 3, 4, 5, 6, 7] ∧
  ∀ i : Instr,
    match i.asm with
    | .mov dst src => encode i = [0b01#2 ++ dst.code ++ src.code]
    | .mvi dst d8 => encode i = [0b00#2 ++ dst.code ++ 0b110#3, d8]
    | .lxi rp d16 => encode i = [0b00#2 ++ rp.code ++ 0b0001#4, loByte d16, hiByte d16]
    | .lda a16 => encode i = [0b00111010, loByte a16, hiByte a16]
    | .sta a16 => encode i = [0b00110010, loByte a16, hiByte a16]
    | .lhld a16 => encode i = [0b00101010, loByte a16, hiByte a16]
    | .shld a16 => encode i = [0b00100010, loByte a16, hiByte a16]
    | .ldax rp => encode i = [0b00#2 ++ rp.code ++ 0b1010#4]
    | .stax rp => encode i = [0b00#2 ++ rp.code ++ 0b0010#4]
    | .xchg => encode i = [0b11101011]
    | .alu op src => encode i = [0b10#2 ++ op.code ++ src.code]
    | .aluI op d8 => encode i = [0b11#2 ++ op.code ++ 0b110#3, d8]
    | .inr dst => encode i = [0b00#2 ++ dst.code ++ 0b100#3]
    | .dcr dst => encode i = [0b00#2 ++ dst.code ++ 0b101#3]
    | .inx rp => encode i = [0b00#2 ++ rp.code ++ 0b0011#4]
    | .dcx rp => encode i = [0b00#2 ++ rp.code ++ 0b1011#4]
    | .dad rp => encode i = [0b00#2 ++ rp.code ++ 0b1001#4]
    | .daa => encode i = [0b00100111]
    | .rlc => encode i = [0b00000111]
    | .rrc => encode i = [0b00001111]
    | .ral => encode i = [0b00010111]
    | .rar => encode i = [0b00011111]
    | .cma => encode i = [0b00101111]
    | .cmc => encode i = [0b00111111]
    | .stc => encode i = [0b00110111]
    | .jmp a16 => encode i = [0b11000011, loByte a16, hiByte a16]
    | .jcc cond a16 => encode i = [0b11#2 ++ cond.code ++ 0b010#3, loByte a16, hiByte a16]
    | .call a16 => encode i = [0b11001101, loByte a16, hiByte a16]
    | .ccc cond a16 => encode i = [0b11#2 ++ cond.code ++ 0b100#3, loByte a16, hiByte a16]
    | .ret => encode i = [0b11001001]
    | .rcc cond => encode i = [0b11#2 ++ cond.code ++ 0b000#3]
    | .rst n => encode i = [0b11#2 ++ BitVec.ofNat 3 n ++ 0b111#3]
    | .pchl => encode i = [0b11101001]
    | .push rp => encode i = [0b11#2 ++ rp.code ++ 0b0101#4]
    | .pop rp => encode i = [0b11#2 ++ rp.code ++ 0b0001#4]
    | .xthl => encode i = [0b11100011]
    | .sphl => encode i = [0b11111001]
    | .ei => encode i = [0b11111011]
    | .di => encode i = [0b11110011]
    | .hlt => encode i = [0b01110110]
    | .nop => ∃ k : BitVec 3, encode i = [0b00#2 ++ k ++ 0b000#3]
    | .unimplemented op => encode i = [op]

/-- The length of an instruction by its opcode byte, with the two lists of opcodes of the spec; every other opcode is one byte. Derived from
R71 and R77. -/
def Obligations.LengthIsGivenByOpcodeByte : Prop :=
  ∀ op : Byte, opcodeLength op = if op ∈ formatI1 then 2 else if op ∈ formatI2 then 3 else 1

/-- R80 and R81: the opcodes without a defined case are exactly the seven of UNIMPL_OPCODES, which stop with their opcode byte and never
fall through; and the seven alternate encodings of NOP are one-byte instructions identical to NOP. Both sets rest on decision D1 of the
spec. -/
def Obligations.UnimplementedAndAlternateNopSets : Prop :=
  (∀ (op : Byte) (rest : List Byte),
    (∃ i, decode (op :: rest) = .ok (i, rest) ∧ ∀ s, exec i s = .fault (.unimplemented op)) ↔
      op ∈ ([0xD3, 0xDB, 0xCB, 0xD9, 0xDD, 0xED, 0xFD] : List Byte)) ∧
  (∀ (op : Byte) (rest : List Byte), op ∈ ([0x08, 0x10, 0x18, 0x20, 0x28, 0x30, 0x38] : List Byte) →
    ∃ i, decode (op :: rest) = .ok (i, rest) ∧ ∀ s, exec i s = exec .nop s)

/-- Every instruction has an assembler reading that the assembler's restrictions allow, and every assembler term they allow names an
instruction (no MOV M,M; LDAX and STAX on B or D only; PSW in PUSH and POP only; RST 0 to 7). Derived from R84, R83. -/
def Obligations.AssemblerTermsAreTheInstructions : Prop :=
  (∀ i : Instr, i.wellFormed = true) ∧ (∀ x : Asm, x.wellFormed = true → ∃ i : Instr, i.asm = x)

/-! Registers, memory, the stack, the status word -/

/-- R11 and R12: the 3-bit codes name B, C, D, E, H, L, the memory byte at HL, and A, for reading and for writing; a register write
changes that register alone (no other register, and not SP, PC, the flags, INTE, memory or the result); a pair is its two registers, the
first named the high byte. -/
def Obligations.RegisterFileAndResolver : Prop :=
  ([.r .b, .r .c, .r .d, .r .e, .r .h, .r .l, .m, .r .a] : List Operand).map Operand.code = [0, 1, 2, 3, 4, 5, 6, 7] ∧
  (∀ (s : State) (r r' : Reg) (v : Byte), (s.setReg r v).reg r' = if r' = r then v else s.reg r') ∧
  (∀ (s : State) (r : Reg) (v : Byte),
    s.setReg r v = { s with
      a := (s.setReg r v).a
      b := (s.setReg r v).b
      c := (s.setReg r v).c
      d := (s.setReg r v).d
      e := (s.setReg r v).e
      h := (s.setReg r v).h
      l := (s.setReg r v).l }) ∧
  (∀ (s : State) (r : Reg), s.readOperand (.r r) = s.reg r) ∧
  (∀ s : State, s.readOperand .m = s.memRead s.hl) ∧
  (∀ (s : State) (r : Reg) (v : Byte), s.writeOperand (.r r) v = s.setReg r v) ∧
  (∀ (s : State) (v : Byte) (a : Word), (s.writeOperand .m v).memRead a = if a = s.hl then v else s.memRead a) ∧
  (∀ s : State, s.bc.toNat = s.b.toNat * 256 + s.c.toNat ∧ s.de.toNat = s.d.toNat * 256 + s.e.toNat ∧
    s.hl.toNat = s.h.toNat * 256 + s.l.toNat) ∧
  (∀ (s : State) (v : Word), ∃ hi lo : Byte, hi.toNat = v.toNat / 256 ∧ lo.toNat = v.toNat % 256 ∧
    s.setPair .bc v = { s with b := hi, c := lo } ∧ s.setPair .de v = { s with d := hi, e := lo } ∧
    s.setPair .hl v = { s with h := hi, l := lo } ∧ (s.setPair .hl v).hl = v)

/-- R42, R43, R48: a byte read returns the last value written to that address, and a byte write changes no other address. A word is
two bytes, the low byte at the lower address, `a + 1` wrapping modulo 65536 (R45, decision D7); a word written is read back, and no
other byte and nothing but memory changes. -/
def Obligations.MemoryAccessIsLittleEndian : Prop :=
  (∀ (s : State) (a j : Word) (x : Byte),
    (s.memWrite a x).memRead j = (if j = a then x else s.memRead j) ∧ s.memWrite a x = { s with mem := (s.memWrite a x).mem }) ∧
  (∀ (s : State) (a v j : Word),
    ((s.memRead16 a).toNat = (s.memRead a).toNat + 256 * (s.memRead (a + 1)).toNat) ∧
    ((s.memWrite16 a v).memRead a).toNat = v.toNat % 256 ∧
    ((s.memWrite16 a v).memRead (a + 1)).toNat = v.toNat / 256 ∧
    (s.memWrite16 a v).memRead16 a = v ∧
    (j ≠ a → j ≠ a + 1 → (s.memWrite16 a v).memRead j = s.memRead j) ∧
    s.memWrite16 a v = { s with mem := (s.memWrite16 a v).mem })

/-- R51 and R52: a push stores the high byte at SP-1 and the low byte at SP-2 and moves SP down by 2; a pop reads the low byte at SP and
the high byte at SP+1 and moves SP up by 2; a push then a pop gives the value and SP back, for every SP. -/
def Obligations.PushThenPopPrimitivesRoundTrip : Prop :=
  ∀ (s : State) (v j : Word),
    (s.push16 v).memRead (s.sp - 1) = hiByte v ∧ (s.push16 v).memRead (s.sp - 2) = loByte v ∧
    (j ≠ s.sp - 1 → j ≠ s.sp - 2 → (s.push16 v).memRead j = s.memRead j) ∧
    s.push16 v = { s with mem := (s.push16 v).mem, sp := s.sp - 2 } ∧
    s.top16 = joinBytes (s.memRead (s.sp + 1)) (s.memRead s.sp) ∧ s.dropTop = { s with sp := s.sp + 2 } ∧
    (s.push16 v).top16 = v ∧ (s.push16 v).dropTop.sp = s.sp

/-- R13: bits 7 to 0 of the status word are S Z 0 AC 0 P 1 CY; unpacking a packed word gives the five flags back, and unpacking reads
bits 7, 6, 4, 2, 0 alone. The layout rests on decision D3 of the spec. -/
def Obligations.StatusWordLayout : Prop :=
  (∀ f : Flags,
    (List.range 8).map (packPSW f).getLsbD = [f.cy, true, f.p, false, f.ac, false, f.z, f.s] ∧ unpackPSW (packPSW f) = f) ∧
  (∀ b : Byte, packPSW (unpackPSW b) = (b &&& 0b11010111) ||| 0b00000010)

/-! Data transfer -/

/-- R130, R131: MOV r,r and MOV r,M. The address is HL as it was before the instruction, when the destination is H or L too. -/
def Obligations.MovIntoRegister : Prop :=
  ∀ (i : Instr) (dst : Reg) (src : Operand) (s : State), i.asm = .mov (.r dst) src →
    encode i = [0b01#2 ++ dst.code ++ src.code] ∧
    exec i s = .next
      { s.setReg dst (match src with | .r r => s.reg r | .m => s.memRead s.hl) with pc := s.pc + 1, result := .cont }

/-- R132, R134, R137, R141: MOV M,r, MVI M, STA and STAX store one byte at the address the form computes, and change no other byte
and nothing else but PC. -/
def Obligations.OneByteStoresStoreOneByte : Prop :=
  ∀ (i : Instr) (s : State) (addr : Word) (v : Byte) (bytes : List Byte), oneByteStore i s = some (addr, v, bytes) →
    encode i = bytes ∧
    ∃ t, exec i s = .next t ∧ t.memRead addr = v ∧ (∀ a, a ≠ addr → t.memRead a = s.memRead a) ∧
      t = { s with mem := t.mem, pc := s.pc + BitVec.ofNat 16 bytes.length, result := .cont }

/-- R133, R135: MVI r and LXI; the high register of a pair takes the byte at PC+2, the low one the byte at PC+1. -/
def Obligations.ImmediateLoads : Prop :=
  (∀ (i : Instr) (dst : Reg) (d8 : Byte) (s : State), i.asm = .mvi (.r dst) d8 →
    encode i = [0b00#2 ++ dst.code ++ 0b110#3, d8] ∧
    exec i s = .next { s.setReg dst d8 with pc := s.pc + 2, result := .cont }) ∧
  (∀ (b1 b2 : Byte) (s : State),
    decode [0x01, b1, b2] = .ok (.lxiB (joinBytes b2 b1), []) ∧
    decode [0x11, b1, b2] = .ok (.lxiD (joinBytes b2 b1), []) ∧
    decode [0x21, b1, b2] = .ok (.lxiH (joinBytes b2 b1), []) ∧
    decode [0x31, b1, b2] = .ok (.lxiSP (joinBytes b2 b1), []) ∧
    exec (.lxiB (joinBytes b2 b1)) s = .next { s with b := b2, c := b1, pc := s.pc + 3, result := .cont } ∧
    exec (.lxiD (joinBytes b2 b1)) s = .next { s with d := b2, e := b1, pc := s.pc + 3, result := .cont } ∧
    exec (.lxiH (joinBytes b2 b1)) s = .next { s with h := b2, l := b1, pc := s.pc + 3, result := .cont } ∧
    exec (.lxiSP (joinBytes b2 b1)) s = .next { s with sp := joinBytes b2 b1, pc := s.pc + 3, result := .cont })

/-- R136, R138, R140: LDA, LHLD, LDAX B and LDAX D. LHLD reads L at a16 and H at a16 + 1, which wraps. -/
def Obligations.DirectAndIndirectLoads : Prop :=
  ∀ (a16 : Word) (s : State),
    encode (.lda a16) = [0x3A, loByte a16, hiByte a16] ∧
    exec (.lda a16) s = .next { s with a := s.memRead a16, pc := s.pc + 3, result := .cont } ∧
    encode (.lhld a16) = [0x2A, loByte a16, hiByte a16] ∧
    exec (.lhld a16) s =
      .next { s with l := s.memRead a16, h := s.memRead (a16 + 1), pc := s.pc + 3, result := .cont } ∧
    encode .ldaxB = [0x0A] ∧
    exec .ldaxB s = .next { s with a := s.memRead (joinBytes s.b s.c), pc := s.pc + 1, result := .cont } ∧
    encode .ldaxD = [0x1A] ∧
    exec .ldaxD s = .next { s with a := s.memRead (joinBytes s.d s.e), pc := s.pc + 1, result := .cont }

/-- R139: SHLD stores L at a16 and H at a16 + 1, which wraps, and changes no other byte and nothing else but PC. -/
def Obligations.ShldStoresBothBytes : Prop :=
  ∀ (a16 : Word) (s : State),
    encode (.shld a16) = [0x22, loByte a16, hiByte a16] ∧
    ∃ t, exec (.shld a16) s = .next t ∧ t.memRead a16 = s.l ∧ t.memRead (a16 + 1) = s.h ∧
      (∀ a, a ≠ a16 → a ≠ a16 + 1 → t.memRead a = s.memRead a) ∧
      t = { s with mem := t.mem, pc := s.pc + 3, result := .cont }

/-- R142: XCHG exchanges HL with DE, and twice restores all four registers. -/
def Obligations.XchgExchangesPairs : Prop :=
  ∀ s : State,
    encode .xchg = [0b11101011] ∧
    exec .xchg s = .next { s with h := s.d, l := s.e, d := s.h, e := s.l, pc := s.pc + 1, result := .cont } ∧
    execAll [.xchg, .xchg] s = .next { s with pc := s.pc + 1 + 1, result := .cont }

/-! Arithmetic -/

/-- R150 to R155 by R102: ADD, ADI, ADC, ACI in every form. The sum with the carry-in is taken on natural numbers; CY says that it exceeds
0xFF; AC is not written. -/
def Obligations.AddFamilyAddsWithCarryOut : Prop :=
  ∀ (i : Instr) (s : State) (op : AluOp) (x : Byte) (bytes : List Byte), aluForm i s = some (op, x, bytes) →
    (op = .add ∨ op = .adc) →
    encode i = bytes ∧
    ∃ t, exec i s = .next t ∧
      t.a.toNat = (s.a.toNat + x.toNat + carryIn op s.flags) % 256 ∧
      (t.flags.cy = true ↔ 255 < s.a.toNat + x.toNat + carryIn op s.flags) ∧
      ZspOf t.flags t.a ∧ t.flags.ac = s.flags.ac ∧
      t = { s with a := t.a, flags := t.flags, pc := s.pc + BitVec.ofNat 16 bytes.length, result := .cont }

/-- R156 to R161 by R103: SUB, SUI, SBB, SBI in every form. CY is the borrow: the minuend is less than the subtrahend, the borrow-in
counted in it; AC is not written. -/
def Obligations.SubFamilySubtractsWithBorrow : Prop :=
  ∀ (i : Instr) (s : State) (op : AluOp) (x : Byte) (bytes : List Byte), aluForm i s = some (op, x, bytes) →
    (op = .sub ∨ op = .sbb) →
    encode i = bytes ∧
    ∃ t, exec i s = .next t ∧
      t.a.toNat = (s.a.toNat + 256 - (x.toNat + carryIn op s.flags)) % 256 ∧
      (t.flags.cy = true ↔ s.a.toNat < x.toNat + carryIn op s.flags) ∧
      ZspOf t.flags t.a ∧ t.flags.ac = s.flags.ac ∧
      t = { s with a := t.a, flags := t.flags, pc := s.pc + BitVec.ofNat 16 bytes.length, result := .cont }

/-- R162 to R164, R104: CMP and CPI give exactly the flags of SUB or SUI on the same inputs, Z says that A equals the operand and CY
that it is less, and A is not written. -/
def Obligations.CompareAgreesWithSubtract : Prop :=
  ∀ (i : Instr) (s : State) (x : Byte) (bytes : List Byte), aluForm i s = some (.cmp, x, bytes) →
    encode i = bytes ∧
    ∃ t, exec i s = .next t ∧
      (t.flags.z = true ↔ s.a = x) ∧ (t.flags.cy = true ↔ s.a.toNat < x.toNat) ∧
      ZspOf t.flags (s.a - x) ∧ t.flags.ac = s.flags.ac ∧
      t = { s with flags := t.flags, pc := s.pc + BitVec.ofNat 16 bytes.length, result := .cont } ∧
      ∀ (j : Instr) (jbytes : List Byte), aluForm j s = some (.sub, x, jbytes) →
        ∃ u, exec j s = .next u ∧ u.flags = t.flags

/-- R165, R167 by R106: INR r and DCR r. CY and AC are not touched. -/
def Obligations.IncrementDecrementRegister : Prop :=
  ∀ (i : Instr) (dst : Reg) (s : State),
    (i.asm = .inr (.r dst) →
      encode i = [0b00#2 ++ dst.code ++ 0b100#3] ∧
      ∃ t, exec i s = .next t ∧ (t.reg dst).toNat = ((s.reg dst).toNat + 1) % 256 ∧ ZspOf t.flags (t.reg dst) ∧
        t.flags.cy = s.flags.cy ∧ t.flags.ac = s.flags.ac ∧
        t = { s.setReg dst (t.reg dst) with flags := t.flags, pc := s.pc + 1, result := .cont }) ∧
    (i.asm = .dcr (.r dst) →
      encode i = [0b00#2 ++ dst.code ++ 0b101#3] ∧
      ∃ t, exec i s = .next t ∧ (t.reg dst).toNat = ((s.reg dst).toNat + 255) % 256 ∧ ZspOf t.flags (t.reg dst) ∧
        t.flags.cy = s.flags.cy ∧ t.flags.ac = s.flags.ac ∧
        t = { s.setReg dst (t.reg dst) with flags := t.flags, pc := s.pc + 1, result := .cont })

/-- R166, R168 by R106: INR M and DCR M change the byte at HL, and no other byte. -/
def Obligations.IncrementDecrementMemory : Prop :=
  ∀ (i : Instr) (up : Bool) (s : State), (i = .inrM ∧ up = true ∨ i = .dcrM ∧ up = false) →
    encode i = [if up then 0x34 else 0x35] ∧
    ∃ t, exec i s = .next t ∧
      (t.memRead s.hl).toNat = ((s.memRead s.hl).toNat + if up then 1 else 255) % 256 ∧
      (∀ a, a ≠ s.hl → t.memRead a = s.memRead a) ∧
      ZspOf t.flags (t.memRead s.hl) ∧ t.flags.cy = s.flags.cy ∧ t.flags.ac = s.flags.ac ∧
      t = { s with mem := t.mem, flags := t.flags, pc := s.pc + 1, result := .cont }

/-- R169, R170: INX and DCX on BC, DE, HL and SP, modulo 65536, with no flag. -/
def Obligations.PairIncrementDecrement : Prop :=
  ∀ (i : Instr) (rp : PairName) (s : State),
    (i.asm = .inx rp →
      encode i = [0b00#2 ++ rp.code ++ 0b0011#4] ∧
      ∃ v : Word, v.toNat = ((s.pair rp).toNat + 1) % 65536 ∧
        exec i s = .next { s.setPair rp v with pc := s.pc + 1, result := .cont }) ∧
    (i.asm = .dcx rp →
      encode i = [0b00#2 ++ rp.code ++ 0b1011#4] ∧
      ∃ v : Word, v.toNat = ((s.pair rp).toNat + 65535) % 65536 ∧
        exec i s = .next { s.setPair rp v with pc := s.pc + 1, result := .cont })

/-- R171 by R108: DAD adds a pair or SP to HL and writes CY alone among the flags. -/
def Obligations.DadAddsPairToHL : Prop :=
  ∀ (i : Instr) (rp : PairName) (s : State), i.asm = .dad rp →
    encode i = [0b00#2 ++ rp.code ++ 0b1001#4] ∧
    ∃ t, exec i s = .next t ∧
      t.h.toNat * 256 + t.l.toNat = (s.hl.toNat + (s.pair rp).toNat) % 65536 ∧
      (t.flags.cy = true ↔ 65535 < s.hl.toNat + (s.pair rp).toNat) ∧
      t = { s with h := t.h, l := t.l, flags := { s.flags with cy := t.flags.cy }, pc := s.pc + 1, result := .cont }

/-- R172, R229, R230: DAA, NOP and the seven alternate NOPs change nothing but PC; DAA is a no-op by decision D5 of the spec. -/
def Obligations.NoOperationsOnlyAdvance : Prop :=
  (∀ (i : Instr) (s : State), (i.asm = .daa ∨ i.asm = .nop) → exec i s = .next { s with pc := s.pc + 1, result := .cont }) ∧
  encode .daa = [0b00100111] ∧ encode .nop = [0x00] ∧
  ([.nop08, .nop10, .nop18, .nop20, .nop28, .nop30, .nop38] : List Instr).map encode =
    [[0x08], [0x10], [0x18], [0x20], [0x28], [0x30], [0x38]]

/-! Logical, rotate, carry -/

/-- R180 to R188 by R105: ANA, XRA, ORA and the immediate forms, bit by bit; CY and AC are forced to false. -/
def Obligations.LogicalFamilyClearsCarries : Prop :=
  ∀ (i : Instr) (s : State) (op : AluOp) (x : Byte) (bytes : List Byte), aluForm i s = some (op, x, bytes) →
    (op = .ana ∨ op = .xra ∨ op = .ora) →
    encode i = bytes ∧
    ∃ t, exec i s = .next t ∧
      (∀ k < 8, t.a.getLsbD k = logicBit op (s.a.getLsbD k) (x.getLsbD k)) ∧
      ZspOf t.flags t.a ∧ t.flags.cy = false ∧ t.flags.ac = false ∧
      t = { s with a := t.a, flags := t.flags, pc := s.pc + BitVec.ofNat 16 bytes.length, result := .cont }

/-- R189 to R192: RLC and RRC rotate the eight bits of A, RAL and RAR the nine-bit ring of CY and A; CY is the bit shifted out, and no
other flag changes (which of the two kinds each is, is the spec's [from general knowledge]). -/
def Obligations.RotatesMoveOneBit : Prop :=
  ∀ s : State,
    encode .rlc = [0x07] ∧ encode .rrc = [0x0F] ∧ encode .ral = [0x17] ∧ encode .rar = [0x1F] ∧
    exec .rlc s = .next
      { s with a := s.a.rotateLeft 1, flags := { s.flags with cy := s.a.getLsbD 7 }, pc := s.pc + 1, result := .cont } ∧
    exec .rrc s = .next
      { s with a := s.a.rotateRight 1, flags := { s.flags with cy := s.a.getLsbD 0 }, pc := s.pc + 1, result := .cont } ∧
    exec .ral s = .next
      { s with
        a := (s.a ++ BitVec.ofBool s.flags.cy).extractLsb' 0 8
        flags := { s.flags with cy := s.a.getLsbD 7 }
        pc := s.pc + 1
        result := .cont } ∧
    exec .rar s = .next
      { s with
        a := (BitVec.ofBool s.flags.cy ++ s.a).extractLsb' 1 8
        flags := { s.flags with cy := s.a.getLsbD 0 }
        pc := s.pc + 1
        result := .cont }

/-- The laws of the rotates, derived from R189 to R192 (corner cases; conflict C1): eight RLCs restore A and leave its bit 0 in CY; eight
RRCs restore A and leave its bit 7; nine RALs, and nine RARs, restore A and CY; RRC undoes RLC and RLC undoes RRC on A, with CY the bit
that went round; RAR undoes RAL, and RAL undoes RAR, on A and CY. -/
def Obligations.RotatesRestoreTheirOperand : Prop :=
  ∀ s : State,
    execAll (List.replicate 8 .rlc) s = .next
      { s with flags := { s.flags with cy := s.a.getLsbD 0 }, pc := s.pc + 8, result := .cont } ∧
    execAll (List.replicate 8 .rrc) s = .next
      { s with flags := { s.flags with cy := s.a.getLsbD 7 }, pc := s.pc + 8, result := .cont } ∧
    execAll (List.replicate 9 .ral) s = .next { s with pc := s.pc + 9, result := .cont } ∧
    execAll (List.replicate 9 .rar) s = .next { s with pc := s.pc + 9, result := .cont } ∧
    execAll [.rlc, .rrc] s = .next
      { s with flags := { s.flags with cy := s.a.getLsbD 7 }, pc := s.pc + 2, result := .cont } ∧
    execAll [.rrc, .rlc] s = .next
      { s with flags := { s.flags with cy := s.a.getLsbD 0 }, pc := s.pc + 2, result := .cont } ∧
    execAll [.ral, .rar] s = .next { s with pc := s.pc + 2, result := .cont } ∧
    execAll [.rar, .ral] s = .next { s with pc := s.pc + 2, result := .cont }

/-- R193, R194, R195: CMA complements A with no flag; CMC complements Carry; STC sets it; no other flag changes. -/
def Obligations.ComplementAndCarryInstructions : Prop :=
  ∀ s : State,
    encode .cma = [0x2F] ∧ encode .cmc = [0x3F] ∧ encode .stc = [0x37] ∧
    (∃ v : Byte, v.toNat = 255 - s.a.toNat ∧ exec .cma s = .next { s with a := v, pc := s.pc + 1, result := .cont }) ∧
    exec .cmc s = .next { s with flags := { s.flags with cy := !s.flags.cy }, pc := s.pc + 1, result := .cont } ∧
    exec .stc s = .next { s with flags := { s.flags with cy := true }, pc := s.pc + 1, result := .cont }

/-! Control transfer -/

/-- R200, R207, R201 with R111: JMP and PCHL go to their target; a conditional jump goes to its target where its condition holds and
to PC + 3 where it does not; nothing else changes. -/
def Obligations.JumpsReachTheirTarget : Prop :=
  (∀ (a16 : Word) (s : State), encode (.jmp a16) = [0xC3, loByte a16, hiByte a16] ∧
    exec (.jmp a16) s = .next { s with pc := a16, result := .cont }) ∧
  (∀ s : State, encode .pchl = [0xE9] ∧ exec .pchl s = .next { s with pc := joinBytes s.h s.l, result := .cont }) ∧
  (∀ (i : Instr) (cond : Cond) (a16 : Word) (s : State), i.asm = .jcc cond a16 →
    encode i = [0b11#2 ++ cond.code ++ 0b010#3, loByte a16, hiByte a16] ∧
    exec i s = .next { s with pc := if condTrue s.flags cond then a16 else s.pc + 3, result := .cont })

/-- R202, R203, R206: CALL, a conditional call whose condition holds, and RST push the address of the next instruction, high byte at
SP-1 and low byte at SP-2, and go to their target; a conditional call whose condition does not hold changes nothing but PC. -/
def Obligations.CallsPushReturnAddress : Prop :=
  (∀ (i : Instr) (s : State) (ret target : Word) (bytes : List Byte), callForm i s = some (ret, target, bytes) →
    encode i = bytes ∧ ret = s.pc + BitVec.ofNat 16 bytes.length ∧
    ∃ t, exec i s = .next t ∧
      (t.memRead (s.sp - 1)).toNat = ret.toNat / 256 ∧ (t.memRead (s.sp - 2)).toNat = ret.toNat % 256 ∧
      (∀ a, a ≠ s.sp - 1 → a ≠ s.sp - 2 → t.memRead a = s.memRead a) ∧
      t = { s with mem := t.mem, sp := s.sp - 2, pc := target, result := .cont }) ∧
  (∀ (i : Instr) (cond : Cond) (a16 : Word) (s : State), i.asm = .ccc cond a16 → condTrue s.flags cond = false →
    encode i = [0b11#2 ++ cond.code ++ 0b100#3, loByte a16, hiByte a16] ∧
    exec i s = .next { s with pc := s.pc + 3, result := .cont })

/-- R204, R205: RET, and a conditional return whose condition holds, take PC from the two bytes at SP and move SP up by 2; a conditional
return whose condition does not hold changes nothing but PC. -/
def Obligations.ReturnsPopProgramCounter : Prop :=
  (∀ s : State, encode .ret = [0xC9] ∧
    exec .ret s = .next
      { s with pc := joinBytes (s.memRead (s.sp + 1)) (s.memRead s.sp), sp := s.sp + 2, result := .cont }) ∧
  (∀ (i : Instr) (cond : Cond) (s : State), i.asm = .rcc cond →
    encode i = [0b11#2 ++ cond.code ++ 0b000#3] ∧
    (condTrue s.flags cond = true →
      exec i s = .next
        { s with pc := joinBytes (s.memRead (s.sp + 1)) (s.memRead s.sp), sp := s.sp + 2, result := .cont }) ∧
    (condTrue s.flags cond = false → exec i s = .next { s with pc := s.pc + 1, result := .cont }))

/-- The scenario of a call followed by a return, derived from R202, R203, R206, R204: PC is the instruction after the call, SP is what it
was, and only the two bytes below SP and PC have changed. -/
def Obligations.CallThenReturnResumes : Prop :=
  ∀ (i : Instr) (s : State) (ret target : Word) (bytes : List Byte), callForm i s = some (ret, target, bytes) →
    ∃ t, execAll [i, .ret] s = .next t ∧ t.pc = s.pc + BitVec.ofNat 16 bytes.length ∧ t.sp = s.sp ∧
      (∀ a, a ≠ s.sp - 1 → a ≠ s.sp - 2 → t.memRead a = s.memRead a) ∧
      t = { s with mem := t.mem, pc := t.pc, result := .cont }

/-! Stack and machine control -/

/-- R220, R221: PUSH stores the high register (A for PSW) at SP-1 and the low register (the status word for PSW) at SP-2, moves SP down by
2, and changes no other byte. -/
def Obligations.PushStoresPair : Prop :=
  ∀ (i : Instr) (rp : PairName) (s : State), i.asm = .push rp →
    encode i = [0b11#2 ++ rp.code ++ 0b0101#4] ∧
    ∃ t, exec i s = .next t ∧ t.memRead (s.sp - 1) = pushedHigh s rp ∧ t.memRead (s.sp - 2) = pushedLow s rp ∧
      (∀ a, a ≠ s.sp - 1 → a ≠ s.sp - 2 → t.memRead a = s.memRead a) ∧
      t = { s with mem := t.mem, sp := s.sp - 2, pc := s.pc + 1, result := .cont }

/-- R222, R223: POP loads the low register from SP and the high register from SP+1; POP PSW loads A from SP+1 and the five flags from
bits 7, 6, 4, 2, 0 of the byte at SP; SP moves up by 2 and memory is not changed. -/
def Obligations.PopLoadsPair : Prop :=
  ∀ s : State,
    encode .popB = [0xC1] ∧ encode .popD = [0xD1] ∧ encode .popH = [0xE1] ∧ encode .popPSW = [0xF1] ∧
    exec .popB s = .next
      { s with b := s.memRead (s.sp + 1), c := s.memRead s.sp, sp := s.sp + 2, pc := s.pc + 1, result := .cont } ∧
    exec .popD s = .next
      { s with d := s.memRead (s.sp + 1), e := s.memRead s.sp, sp := s.sp + 2, pc := s.pc + 1, result := .cont } ∧
    exec .popH s = .next
      { s with h := s.memRead (s.sp + 1), l := s.memRead s.sp, sp := s.sp + 2, pc := s.pc + 1, result := .cont } ∧
    exec .popPSW s = .next
      { s with
        a := s.memRead (s.sp + 1)
        flags :=
          { s := (s.memRead s.sp).getLsbD 7
            z := (s.memRead s.sp).getLsbD 6
            ac := (s.memRead s.sp).getLsbD 4
            p := (s.memRead s.sp).getLsbD 2
            cy := (s.memRead s.sp).getLsbD 0 }
        sp := s.sp + 2
        pc := s.pc + 1
        result := .cont }

/-- "Push then pop of any 16-bit value returns the original value and restores the original stack pointer", for a PUSH and any POP;
and PUSH PSW then POP PSW restores A and all five flags. Derived from R220 to R223. -/
def Obligations.PushThenPopRestores : Prop :=
  (∀ (i j : Instr) (rp rp' : PairName) (s : State), i.asm = .push rp → j.asm = .pop rp' → rp' ≠ .psw →
    ∃ t, execAll [i, j] s = .next t ∧ t.pair rp' = s.pair rp ∧ t.sp = s.sp ∧ t.flags = s.flags) ∧
  (∀ (i j : Instr) (rp : PairName) (s : State), i.asm = .push rp → j.asm = .pop rp →
    ∃ t, execAll [i, j] s = .next t ∧ t = { s with mem := t.mem, pc := s.pc + 2, result := .cont })

/-- R224, R225: XTHL exchanges HL with the two bytes at SP and leaves SP and every other byte alone; XTHL twice restores HL and
memory. SPHL copies HL to SP. -/
def Obligations.XthlAndSphl : Prop :=
  ∀ s : State,
    encode .xthl = [0xE3] ∧ encode .sphl = [0xF9] ∧
    (∃ t, exec .xthl s = .next t ∧ t.memRead s.sp = s.l ∧ t.memRead (s.sp + 1) = s.h ∧
      (∀ a, a ≠ s.sp → a ≠ s.sp + 1 → t.memRead a = s.memRead a) ∧
      t = { s with
            mem := t.mem
            h := s.memRead (s.sp + 1)
            l := s.memRead s.sp
            pc := s.pc + 1
            result := .cont }) ∧
    (∃ u, execAll [.xthl, .xthl] s = .next u ∧ (∀ a, u.memRead a = s.memRead a) ∧
      u = { s with mem := u.mem, pc := s.pc + 1 + 1, result := .cont }) ∧
    exec .sphl s = .next { s with sp := joinBytes s.h s.l, pc := s.pc + 1, result := .cont }

/-- R226, R227, R228: EI and DI write INTE at once (decision D6 of the spec); HLT changes nothing but PC, and its result is Halted
(decision D9). -/
def Obligations.InterruptEnableAndHalt : Prop :=
  ∀ s : State,
    encode .ei = [0xFB] ∧ encode .di = [0xF3] ∧ encode .hlt = [0x76] ∧
    exec .ei s = .next { s with inte := true, pc := s.pc + 1, result := .cont } ∧
    exec .di s = .next { s with inte := false, pc := s.pc + 1, result := .cont } ∧
    exec .hlt s = .next { s with pc := s.pc + 1, result := .halted }

/-- R231, R232, R233: IN, OUT and the five opcodes without a defined case raise Unimplemented with their opcode byte, in every state. A
fault has no next state: nothing changes and PC stays on the opcode (R251, decision D10; the model's reading is log 3). -/
def Obligations.UnimplementedOpcodesStop : Prop :=
  (∀ (i : Instr) (op : Byte) (s : State), i.asm = .unimplemented op →
    encode i = [op] ∧ exec i s = .fault (.unimplemented op)) ∧
  ([.inPort, .outPort, .unimplCB, .unimplD9, .unimplDD, .unimplED, .unimplFD] : List Instr).map Instr.asm =
    [.unimplemented 0xDB, .unimplemented 0xD3, .unimplemented 0xCB, .unimplemented 0xD9, .unimplemented 0xDD,
     .unimplemented 0xED, .unimplemented 0xFD]

/-! The step -/

/-- R86: when the bytes at PC, PC+1, PC+2 decode to an instruction, a step at that state is the execution of that instruction there,
and nothing around it; the bytes a fetch reads are exactly the instruction's own. -/
def Obligations.StepRunsDecodedInstruction : Prop :=
  (∀ (s : State) (i : Instr) (rest : List Byte),
    decode [s.memRead s.pc, s.memRead (s.pc + 1), s.memRead (s.pc + 2)] = .ok (i, rest) → step s = exec i s) ∧
  (∀ s : State, decode (fetchBytes s) = .ok (fetch s, []) ∧ step s = exec (fetch s) s)

/-- R26: the result of a step is Continue for every instruction but HLT (Halted) and the unimplemented opcodes (Unimplemented with the
offending opcode byte, the only synchronous exception of R250); so a step goes on in every other state. -/
def Obligations.StepResultIsGivenByOpcode : Prop :=
  ∀ s : State,
    (s.memRead s.pc ∈ Config.unimplOpcodes → step s = .fault (.unimplemented (s.memRead s.pc))) ∧
    (s.memRead s.pc ∉ Config.unimplOpcodes →
      ∃ t, step s = .next t ∧ stepResult (step s) = some (if s.memRead s.pc = 0x76 then .halted else .cont))

/-- Every step keeps the canonical form of memory: addresses strictly rising and below 65536, no entry equal to what an unlisted
address reads as. The form is the model's own (log 2). -/
def Obligations.StepKeepsCanonicalMemory : Prop :=
  ∀ s t : State, Inv s → step s = .next t → Inv t

/-- Every operation of the host (step, interrupt, reset, host write), failed ones among them, and so every schedule of them, keeps the
canonical form. The form is the model's own (log 2). -/
def Obligations.EveryRunKeepsCanonicalMemory : Prop :=
  ∀ (ops : List Operation) (s : State), Inv s → Inv (performAll ops s)

/-- The state after reset has the canonical form. -/
def Obligations.ResetHasCanonicalMemory : Prop := Inv State.reset

/-- The flag write discipline, derived from the table of R18: outside its rows a flag keeps its value. -/
def Obligations.FlagsChangeOnlyByTheirWriters : Prop :=
  ∀ (i : Instr) (s t : State), exec i s = .next t →
    (writesZSP i.asm = false → t.flags.z = s.flags.z ∧ t.flags.s = s.flags.s ∧ t.flags.p = s.flags.p) ∧
    (writesCY i.asm = false → t.flags.cy = s.flags.cy) ∧
    ((isLogical i.asm || decide (i = .popPSW)) = false → t.flags.ac = s.flags.ac)

/-- R19: the writers of Auxiliary-Carry are exactly the logical family (to false), POP PSW (bit 4 of the popped byte; decision D4) and
reset (to false; decision D12); nothing computes it, and the interrupt operation keeps it. No instruction tests it: with another AC every
instruction but PUSH PSW does the same to everything else. -/
def Obligations.AuxiliaryCarryWriters : Prop :=
  (∀ (i : Instr) (s t : State), exec i s = .next t →
    t.flags.ac =
      if isLogical i.asm then false else if i = .popPSW then (s.memRead s.sp).getLsbD 4 else s.flags.ac) ∧
  (∀ (i : Instr) (s t : State) (b : Bool), i ≠ .pushPSW → exec i s = .next t →
    exec i { s with flags := { s.flags with ac := b } } = .next
      { t with flags := { t.flags with ac := if isLogical i.asm then false else if i = .popPSW then t.flags.ac else b } }) ∧
  (∀ s : State, s.applyReset.flags.ac = false) ∧
  (∀ (n : Nat) (s t : State), interrupt n s = .next t → t.flags = s.flags)

/-- R20, R257: INTE is set by EI, cleared by DI and by a taken interrupt, false after reset, and no instruction reads it: with another INTE
every instruction does the same to everything else. When it is true the interrupt operation is taken; when it is false the operation
does nothing, remembers nothing and accesses no memory. -/
def Obligations.InterruptEnableWritersAndReaders : Prop :=
  (∀ (i : Instr) (s t : State), exec i s = .next t →
    t.inte = if i = .ei then true else if i = .di then false else s.inte) ∧
  (∀ (i : Instr) (s t : State) (b : Bool), exec i s = .next t →
    exec i { s with inte := b } = .next { t with inte := if i = .ei then true else if i = .di then false else b }) ∧
  (∀ (n : Nat) (s : State), n ≤ 7 → s.inte = true →
    ∃ t, interrupt n s = .next t ∧ t.pc.toNat = 8 * n ∧ t.inte = false) ∧
  (∀ (n : Nat) (s : State), n ≤ 7 → s.inte = false → interrupt n s = .next s ∧ interruptTransactions n s = []) ∧
  (∀ s : State, s.applyReset.inte = false)

/-- SP changes only as the instructions of R14 say: by two with every push and pop, and by LXI SP, INX SP, DCX SP and SPHL. -/
def Obligations.StackPointerWriters : Prop :=
  ∀ (i : Instr) (s t : State), exec i s = .next t → t.sp = spAfter i s

/-- PC after every instruction, derived from R16: the target of a transfer that is taken, else the address after the instruction. -/
def Obligations.ProgramCounterAfterEveryInstruction : Prop :=
  ∀ (i : Instr) (s t : State), exec i s = .next t →
    t.pc = (transferTarget i s).getD (s.pc + BitVec.ofNat 16 (encode i).length)

/-- The register frame of every instruction: a register that is not its destination keeps its value. Derived from the pseudocode of the
rules R130 to R230. -/
def Obligations.RegistersChangeOnlyAsDestinations : Prop :=
  ∀ (i : Instr) (s t : State) (r : Reg), exec i s = .next t → r ∉ destinations i.asm → t.reg r = s.reg r

/-- Memory after every instruction is memory before it with the instruction's data writes of the transaction list done in order, so
every byte it does not write is unchanged. Derived from R43 and R47 (20_memory.md section 2), the order of R56 (section 4), and the
pseudocode of the storing instructions (files 41, 42, 44, 45). -/
def Obligations.MemoryChangesOnlyByListedWrites : Prop :=
  ∀ (i : Instr) (s t : State), exec i s = .next t →
    t.mem = applyWrites (dataWrites i s) s.mem ∧
    ∀ a : Word, (∀ w ∈ dataWrites i s, w.1 ≠ a) → t.memRead a = s.memRead a

/-- An instruction learns nothing of memory but the bytes of its data reads: with another memory that agrees on them it does the same
to every register, flag, SP, PC and INTE, and writes the same bytes. Derived from R47 (20_memory.md section 2), R56 (section 4), and the
pseudocode of the instructions that read memory (files 41 to 45; R205 for a return not taken: "no memory read"). -/
def Obligations.InstructionsReadOnlyListedBytes : Prop :=
  ∀ (i : Instr) (s t : State) (m : Memory), (∀ a ∈ dataReads i s, m.read a.toNat = s.memRead a) → exec i s = .next t →
    ∃ u, exec i { s with mem := m } = .next u ∧ { u with mem := t.mem } = t ∧ u.mem = applyWrites (dataWrites i s) m

/-- No operation reads the result of the step before it: "there is no halted latch" (R21), and a step after Halted executes the
instruction after the HLT (R287). Derived; `result` is the model's own field (log 4). -/
def Obligations.NoHaltedLatch : Prop :=
  (∀ (s : State) (r : StepResult), step { s with result := r } = step s) ∧
  (∀ (n : Nat) (s t : State) (r : StepResult), interrupt n s = .next t →
    interrupt n { s with result := r } = .next { t with result := r }) ∧
  (∀ s t : State, fetch s = .hlt → step s = .next t → step t = exec (fetch { s with pc := s.pc + 1 }) { s with pc := s.pc + 1 })

/-- A store into the instruction that follows is seen by the next fetch. Derived from R55 ("including the one at `npc`, and the next
step executes the new bytes"), for STA onto the opcode byte of the next instruction. -/
def Obligations.StoreIntoNextInstructionIsExecuted : Prop :=
  ∀ (s : State) (i : Instr) (rest : List Byte), fetch s = .sta (s.pc + 3) →
    decode [s.a, s.memRead (s.pc + 4), s.memRead (s.pc + 5)] = .ok (i, rest) →
    ∃ t, step s = .next t ∧ t.pc = s.pc + 3 ∧ step t = exec i t

/-! Interrupts, reset, runs -/

/-- R258, R252: with INTE true and a vector 0 to 7 the interrupt operation pushes PC, goes to 8 times the vector and clears INTE, and
changes nothing else; with INTE false it does nothing; a vector above 7 fails first, whatever INTE is (decision D13). -/
def Obligations.InterruptOperation : Prop :=
  ∀ (n : Nat) (s : State),
    (n ≤ 7 → s.inte = true →
      ∃ t, interrupt n s = .next t ∧
        (t.memRead (s.sp - 1)).toNat = s.pc.toNat / 256 ∧ (t.memRead (s.sp - 2)).toNat = s.pc.toNat % 256 ∧
        (∀ a, a ≠ s.sp - 1 → a ≠ s.sp - 2 → t.memRead a = s.memRead a) ∧
        t.pc.toNat = 8 * n ∧
        t = { s with mem := t.mem, sp := s.sp - 2, pc := t.pc, inte := false }) ∧
    (n ≤ 7 → s.inte = false → interrupt n s = .next s) ∧
    (7 < n → interrupt n s = .fault .invalidInterrupt)

/-- A taken interrupt equals an RST of its vector that occupies no bytes, followed by DI: it is RST and DI run from PC - 1, but for the PC
advance of DI and the step result. Derived from R258 by the spec itself ([derived: from R206 and R227]). -/
def Obligations.InterruptEqualsRestartThenDisable : Prop :=
  ∀ (i : Instr) (n : Nat) (s : State), i.asm = .rst n → s.inte = true →
    ∃ t u, interrupt n s = .next t ∧ execAll [i, .di] { s with pc := s.pc - 1 } = .next u ∧
      t = { u with pc := u.pc - 1, result := s.result }

/-- R261: RET serves as the return from an interrupt: right after the entry it resumes where the program was, with SP as it was, INTE
still false, and every register and flag and every byte but the two below SP as they were. Derived from R258, R204, R261. -/
def Obligations.InterruptThenReturnResumes : Prop :=
  ∀ (n : Nat) (s t : State), s.inte = true → interrupt n s = .next t →
    ∃ u, exec .ret t = .next u ∧ u.pc = s.pc ∧ u.sp = s.sp ∧ u.inte = false ∧
      (∀ a, a ≠ s.sp - 1 → a ≠ s.sp - 2 → u.memRead a = s.memRead a) ∧
      u = { s with mem := u.mem, inte := false, result := .cont }

/-- Interrupts between the steps of a schedule, derived from R251, R258, R259, R261 and R265. After any step that leaves INTE true an interrupt with a
vector 0 to 7 is taken: it pushes the PC the step left, and RET resumes there. After HLT that is the address after the HLT; after
`Unimplemented` it is the address of the offending opcode. Of two requests with no step between them the second changes nothing. -/
def Obligations.InterruptBetweenStepsResumes : Prop :=
  (∀ (n : Nat) (s u t : State), n ≤ 7 → stateAfter .step s = u → u.inte = true → performAll [.step, .interrupt n] s = t →
    t.pc.toNat = 8 * n ∧ t.sp = u.sp - 2 ∧ t.inte = false ∧
    (t.memRead (u.sp - 1)).toNat = u.pc.toNat / 256 ∧ (t.memRead (u.sp - 2)).toNat = u.pc.toNat % 256 ∧
    ∃ v, exec .ret t = .next v ∧ v.pc = u.pc ∧ v.sp = u.sp) ∧
  (∀ s : State, fetch s = .hlt →
    operationResult .step s = some .halted ∧ (stateAfter .step s).pc = s.pc + 1 ∧ (stateAfter .step s).inte = s.inte) ∧
  (∀ s : State, s.memRead s.pc ∈ Config.unimplOpcodes →
    operationResult .step s = some (.unimplemented (s.memRead s.pc)) ∧ stateAfter .step s = s) ∧
  (∀ (n m : Nat) (s : State), n ≤ 7 → s.inte = true → performAll [.interrupt n, .interrupt m] s = performAll [.interrupt n] s)

/-- R280: reset writes PC, INTE and AC and nothing else, on any state; and the state after reset holds those three values. The
values are decision D12 of the spec. Every other register of `State.reset` is the model's choice (log 1) and is not spoken of. -/
def Obligations.ResetWritesThreePiecesOfState : Prop :=
  (∀ s : State, perform .reset s =
    .next { s with pc := 0x0000, inte := false, flags := { s.flags with ac := false } }) ∧
  State.reset.pc = 0x0000 ∧ State.reset.inte = false ∧ State.reset.flags.ac = false

/-- A jump to itself is endless in a run of steps alone: every step from it leaves the state as it is with result Continue. The same holds of
every schedule of steps and interrupt requests while INTE is false; an interrupt that is taken, a reset or a host write may leave the
loop, and of schedules with those this says nothing (log 5, log 10). Derived from R200's corner case, R257 and R267. -/
def Obligations.JumpToItselfNeverEnds : Prop :=
  ∀ s : State, fetch s = .jmp s.pc →
    step s = .next { s with result := .cont } ∧ Endless (fun _ => .step) s ∧
    ∀ ops : List Operation, (∀ op ∈ ops, op = .step ∨ s.inte = false ∧ ∃ n, op = .interrupt n) →
      runEnd ops s = none ∧ ∃ r, performAll ops s = { s with result := r }
end

