-- ==== Sys2Proof/Laws/Flags.lean ====
section
/-! SUPPORT. What each ALU function answers, said once in the form later proofs use, and the laws of bytes and of the status word. -/

namespace Sys2Proof

/-- One bit of `{hi, lo}`. -/
theorem joinBytes_getLsbD (h l : Byte) (i : Nat) :
    (joinBytes h l).getLsbD i = if i < 8 then l.getLsbD i else h.getLsbD (i - 8) := by
  have e : (joinBytes h l).getLsbD i = (h ++ l).getLsbD i := rfl
  rw [e, BitVec.getLsbD_append]

@[simp] theorem hiByte_joinBytes (h l : Byte) : hiByte (joinBytes h l) = h := by
  apply BitVec.eq_of_getLsbD_eq
  intro i hi
  simp [hiByte, joinBytes_getLsbD, hi]

@[simp] theorem loByte_joinBytes (h l : Byte) : loByte (joinBytes h l) = l := by
  apply BitVec.eq_of_getLsbD_eq
  intro i hi
  simp only [loByte, BitVec.getLsbD_extractLsb', joinBytes_getLsbD]
  simp [hi]

@[simp] theorem joinBytes_hi_lo (v : Word) : joinBytes (hiByte v) (loByte v) = v := by
  apply BitVec.eq_of_getLsbD_eq
  intro i hi
  simp only [joinBytes_getLsbD, hiByte, loByte, BitVec.getLsbD_extractLsb']
  by_cases h : i < 8
  · simp [h]
  · have h2 : i - 8 < 8 := by omega
    simp [h, h2, show 8 + (i - 8) = i by omega]

/-- `{hi, lo}` is the number `hi * 256 + lo`. -/
theorem joinBytes_toNat (h l : Byte) : (joinBytes h l).toNat = h.toNat * 256 + l.toNat := by
  have e : (joinBytes h l).toNat = (h ++ l).toNat := rfl
  have := Nat.two_pow_add_eq_or_of_lt l.isLt h.toNat
  rw [e, BitVec.toNat_append, Nat.shiftLeft_eq]
  rw [Nat.mul_comm] at this
  omega

/-- The high byte as a number. -/
theorem hiByte_toNat (v : Word) : (hiByte v).toNat = v.toNat / 256 := by
  have h := joinBytes_toNat (hiByte v) (loByte v)
  have := (loByte v).isLt
  rw [joinBytes_hi_lo] at h
  omega

/-- The low byte as a number. -/
theorem loByte_toNat (v : Word) : (loByte v).toNat = v.toNat % 256 := by
  have h := joinBytes_toNat (hiByte v) (loByte v)
  have := (loByte v).isLt
  rw [joinBytes_hi_lo] at h
  omega

end Sys2Proof

namespace Sys2Proof.Machine

@[simp] theorem Flags.setZSP_z (f : Flags) (r : Nat) : (f.setZSP r).z = (BitVec.ofNat 8 r == 0) := rfl
@[simp] theorem Flags.setZSP_s (f : Flags) (r : Nat) : (f.setZSP r).s = (BitVec.ofNat 8 r).getLsbD 7 := rfl
@[simp] theorem Flags.setZSP_p (f : Flags) (r : Nat) : (f.setZSP r).p = parity (BitVec.ofNat 8 r) := rfl
@[simp] theorem Flags.setZSP_cy (f : Flags) (r : Nat) : (f.setZSP r).cy = f.cy := rfl
@[simp] theorem Flags.setZSP_ac (f : Flags) (r : Nat) : (f.setZSP r).ac = f.ac := rfl

/-- The value Add8 returns, as a number. -/
theorem add8_toNat (a b : Byte) (cin : Bool) (f : Flags) :
    (add8 a b cin f).1.toNat = (a.toNat + b.toNat + cin.toNat) % 256 := by
  simp [add8, BitVec.toNat_ofNat]

/-- The flags Add8 returns: Z, S and P of the value, the carry out, and the old AC. -/
theorem add8_flags (a b : Byte) (cin : Bool) (f : Flags) :
    (add8 a b cin f).2 =
      { z := (add8 a b cin f).1 == 0, s := (add8 a b cin f).1.getLsbD 7, p := parity (add8 a b cin f).1,
        cy := decide (255 < a.toNat + b.toNat + cin.toNat), ac := f.ac } := rfl

/-- The value Sub8 returns, as a number. -/
theorem sub8_toNat (a b : Byte) (cin : Bool) (f : Flags) :
    (sub8 a b cin f).1.toNat = (a.toNat + 256 - (b.toNat + cin.toNat)) % 256 := by
  have ha := a.isLt
  have hb := b.isLt
  have hc := Bool.toNat_le cin
  simp only [sub8, BitVec.toNat_ofNat]
  omega

/-- The flags Sub8 returns: Z, S and P of the value, the borrow `a < b + cin`, and the old AC. -/
theorem sub8_flags (a b : Byte) (cin : Bool) (f : Flags) :
    (sub8 a b cin f).2 =
      { z := (sub8 a b cin f).1 == 0, s := (sub8 a b cin f).1.getLsbD 7, p := parity (sub8 a b cin f).1,
        cy := decide (a.toNat < b.toNat + cin.toNat), ac := f.ac } := by
  have ha := a.isLt
  have hb := b.isLt
  have hc := Bool.toNat_le cin
  have h : decide ((a.toNat + 65536 - b.toNat - cin.toNat) % 65536 > 0xFF) = decide (a.toNat < b.toNat + cin.toNat) := by
    rw [decide_eq_decide]; omega
  simp only [sub8, Flags.setZSP, h]

/-- The flags Logic8 returns. -/
theorem logic8_flags (r : Byte) (f : Flags) :
    logic8 r f = (r, { z := r == 0, s := r.getLsbD 7, p := parity r, cy := false, ac := false }) := by
  simp [logic8, Flags.setZSP]

/-- The value and the flags Inc8 returns. -/
theorem inc8_eq (v : Byte) (f : Flags) :
    inc8 v f = (v + 1, { z := v + 1 == 0, s := (v + 1).getLsbD 7, p := parity (v + 1), cy := f.cy, ac := f.ac }) := by
  simp only [inc8, Flags.setZSP, BitVec.ofNat_toNat, BitVec.setWidth_eq]

/-- The value and the flags Dec8 returns. -/
theorem dec8_eq (v : Byte) (f : Flags) :
    dec8 v f = (v - 1, { z := v - 1 == 0, s := (v - 1).getLsbD 7, p := parity (v - 1), cy := f.cy, ac := f.ac }) := by
  simp only [dec8, Flags.setZSP, BitVec.ofNat_toNat, BitVec.setWidth_eq]

/-- The value Add16 returns, as a number. -/
theorem add16_toNat (a b : Word) (f : Flags) : (add16 a b f).1.toNat = (a.toNat + b.toNat) % 65536 := by
  simp [add16, BitVec.toNat_ofNat]

/-- The flags Add16 returns: the carry out, and the other four as they were. -/
theorem add16_flags (a b : Word) (f : Flags) :
    (add16 a b f).2 = { f with cy := decide (65535 < a.toNat + b.toNat) } := rfl

/-- Every bit RLC leaves: bit 0 is the old bit 7, every other bit the old one below it. -/
theorem rlc8_getLsbD (v : Byte) (f : Flags) (k : Fin 8) :
    (rlc8 v f).1.getLsbD k = if k = 0 then v.getLsbD 7 else v.getLsbD (k - 1 : Nat) := by
  simp only [rlc8]
  revert v k
  decide +kernel

/-- Every bit RRC leaves: bit 7 is the old bit 0, every other bit the old one above it. -/
theorem rrc8_getLsbD (v : Byte) (f : Flags) (k : Fin 8) :
    (rrc8 v f).1.getLsbD k = if k = 7 then v.getLsbD 0 else v.getLsbD (k + 1 : Nat) := by
  simp only [rrc8]
  revert v k
  decide +kernel

/-- Every bit RAL leaves: bit 0 is the old Carry. -/
theorem ral8_getLsbD (v : Byte) (f : Flags) (k : Fin 8) :
    (ral8 v f).1.getLsbD k = if k = 0 then f.cy else v.getLsbD (k - 1 : Nat) := by
  simp only [ral8]
  generalize f.cy = c
  revert v k c
  decide +kernel

/-- Every bit RAR leaves: bit 7 is the old Carry. -/
theorem rar8_getLsbD (v : Byte) (f : Flags) (k : Fin 8) :
    (rar8 v f).1.getLsbD k = if k = 7 then f.cy else v.getLsbD (k + 1 : Nat) := by
  simp only [rar8]
  generalize f.cy = c
  revert v k c
  decide +kernel

/-- What a rotate leaves in the flags: CY is the bit shifted out, and nothing else changes. -/
theorem rotate_flags (v : Byte) (f : Flags) :
    (rlc8 v f).2 = { f with cy := v.getLsbD 7 } ∧ (rrc8 v f).2 = { f with cy := v.getLsbD 0 } ∧
    (ral8 v f).2 = { f with cy := v.getLsbD 7 } ∧ (rar8 v f).2 = { f with cy := v.getLsbD 0 } :=
  ⟨rfl, rfl, rfl, rfl⟩

/-- Parity counts the set bits. -/
theorem parity_eq_countP (b : Byte) : parity b = decide ((List.range 8).countP (fun k => b.getLsbD k) % 2 = 0) := by
  revert b; decide +kernel

/-- Bit 7 says whether the byte is 128 or more. -/
theorem getLsbD_seven (b : Byte) : b.getLsbD 7 = decide (128 ≤ b.toNat) := by
  revert b; decide +kernel

/-- Unpacking a packed status word gives the five flags back. -/
@[simp] theorem unpackPSW_packPSW (f : Flags) : unpackPSW (packPSW f) = f := by
  obtain ⟨z, s, p, cy, ac⟩ := f
  revert z s p cy ac; decide

end Sys2Proof.Machine
end

