-- ==== Sys2Proof/Laws/Decode.lean ====
section
/-! SUPPORT. The laws of the opcode map and of fetching: what each cell of the map builds, and that the bytes a fetch reads decode to
the instruction it answers. -/

namespace Sys2Proof

/-- The cell of an opcode byte builds instructions that are encoded with that byte and the operand bytes of its format, and that read as
unimplemented exactly where the cell says so. -/
def Form.EncodesAs (op : Byte) : Form → Prop
  | .i0 i => encode i = [op] ∧ ∀ o, i.asm ≠ .unimplemented o
  | .i1 mk => ∀ b1, encode (mk b1) = [op, b1] ∧ ∀ o, (mk b1).asm ≠ .unimplemented o
  | .i2 mk => ∀ w, encode (mk w) = op :: wordBytes w ∧ ∀ o, (mk w).asm ≠ .unimplemented o
  | .unimpl i => encode i = [op] ∧ i.asm = .unimplemented op

/-- What a cell of the opcode map can be, for all 256 of them. -/
theorem opcodeForm_encodesAs (op : Byte) : (opcodeForm op).EncodesAs op := by
  obtain ⟨n, hn, rfl⟩ : ∃ n < 256, op = BitVec.ofNat 8 n := ⟨op.toNat, op.isLt, by simp⟩
  interval_cases n
  all_goals first
    | exact And.intro rfl rfl
    | exact And.intro rfl nofun
    | exact fun _ => And.intro rfl nofun

end Sys2Proof

namespace Sys2Proof.Machine

/-- Decoding three bytes succeeds, and answers what the opcode's format builds from the two bytes after it. -/
theorem decode_three (op b1 b2 : Byte) :
    ∃ rest, decode [op, b1, b2] = .ok ((opcodeForm op).build b1 b2, rest) := by
  simp only [decode, Form.build]
  cases opcodeForm op <;> exact ⟨_, rfl⟩

/-- The instruction a fetch answers is the one its bytes decode to. -/
theorem decode_fetch (s : State) :
    ∃ rest, decode [s.memRead s.pc, s.memRead (s.pc + 1), s.memRead (s.pc + 2)] = .ok (fetch s, rest) :=
  decode_three _ _ _

end Sys2Proof.Machine
end

