-- ==== Sys2Proof/Laws/State.lean ====
section
/-! SUPPORT. What each update of the state leaves in each field: one simp lemma per field per update, so that no later proof
unfolds a record update. -/

namespace Sys2Proof.Machine

@[simp] theorem State.setReg_a (s : State) (r : Reg) (v : Byte) : (s.setReg r v).a = if r = .a then v else s.a := by
  cases r <;> rfl
@[simp] theorem State.setReg_b (s : State) (r : Reg) (v : Byte) : (s.setReg r v).b = if r = .b then v else s.b := by
  cases r <;> rfl
@[simp] theorem State.setReg_c (s : State) (r : Reg) (v : Byte) : (s.setReg r v).c = if r = .c then v else s.c := by
  cases r <;> rfl
@[simp] theorem State.setReg_d (s : State) (r : Reg) (v : Byte) : (s.setReg r v).d = if r = .d then v else s.d := by
  cases r <;> rfl
@[simp] theorem State.setReg_e (s : State) (r : Reg) (v : Byte) : (s.setReg r v).e = if r = .e then v else s.e := by
  cases r <;> rfl
@[simp] theorem State.setReg_h (s : State) (r : Reg) (v : Byte) : (s.setReg r v).h = if r = .h then v else s.h := by
  cases r <;> rfl
@[simp] theorem State.setReg_l (s : State) (r : Reg) (v : Byte) : (s.setReg r v).l = if r = .l then v else s.l := by
  cases r <;> rfl
@[simp] theorem State.setReg_sp (s : State) (r : Reg) (v : Byte) : (s.setReg r v).sp = s.sp := by
  cases r <;> rfl
@[simp] theorem State.setReg_pc (s : State) (r : Reg) (v : Byte) : (s.setReg r v).pc = s.pc := by
  cases r <;> rfl
@[simp] theorem State.setReg_flags (s : State) (r : Reg) (v : Byte) : (s.setReg r v).flags = s.flags := by
  cases r <;> rfl
@[simp] theorem State.setReg_inte (s : State) (r : Reg) (v : Byte) : (s.setReg r v).inte = s.inte := by
  cases r <;> rfl
@[simp] theorem State.setReg_mem (s : State) (r : Reg) (v : Byte) : (s.setReg r v).mem = s.mem := by
  cases r <;> rfl
@[simp] theorem State.setReg_result (s : State) (r : Reg) (v : Byte) : (s.setReg r v).result = s.result := by
  cases r <;> rfl

@[simp] theorem State.setPair_bc_a (s : State) (v : Word) : (s.setPair .bc v).a = s.a := rfl
@[simp] theorem State.setPair_bc_b (s : State) (v : Word) : (s.setPair .bc v).b = hiByte v := rfl
@[simp] theorem State.setPair_bc_c (s : State) (v : Word) : (s.setPair .bc v).c = loByte v := rfl
@[simp] theorem State.setPair_bc_d (s : State) (v : Word) : (s.setPair .bc v).d = s.d := rfl
@[simp] theorem State.setPair_bc_e (s : State) (v : Word) : (s.setPair .bc v).e = s.e := rfl
@[simp] theorem State.setPair_bc_h (s : State) (v : Word) : (s.setPair .bc v).h = s.h := rfl
@[simp] theorem State.setPair_bc_l (s : State) (v : Word) : (s.setPair .bc v).l = s.l := rfl
@[simp] theorem State.setPair_bc_sp (s : State) (v : Word) : (s.setPair .bc v).sp = s.sp := rfl
@[simp] theorem State.setPair_bc_pc (s : State) (v : Word) : (s.setPair .bc v).pc = s.pc := rfl
@[simp] theorem State.setPair_bc_flags (s : State) (v : Word) : (s.setPair .bc v).flags = s.flags := rfl
@[simp] theorem State.setPair_bc_inte (s : State) (v : Word) : (s.setPair .bc v).inte = s.inte := rfl
@[simp] theorem State.setPair_bc_mem (s : State) (v : Word) : (s.setPair .bc v).mem = s.mem := rfl
@[simp] theorem State.setPair_bc_result (s : State) (v : Word) : (s.setPair .bc v).result = s.result := rfl
@[simp] theorem State.setPair_de_a (s : State) (v : Word) : (s.setPair .de v).a = s.a := rfl
@[simp] theorem State.setPair_de_b (s : State) (v : Word) : (s.setPair .de v).b = s.b := rfl
@[simp] theorem State.setPair_de_c (s : State) (v : Word) : (s.setPair .de v).c = s.c := rfl
@[simp] theorem State.setPair_de_d (s : State) (v : Word) : (s.setPair .de v).d = hiByte v := rfl
@[simp] theorem State.setPair_de_e (s : State) (v : Word) : (s.setPair .de v).e = loByte v := rfl
@[simp] theorem State.setPair_de_h (s : State) (v : Word) : (s.setPair .de v).h = s.h := rfl
@[simp] theorem State.setPair_de_l (s : State) (v : Word) : (s.setPair .de v).l = s.l := rfl
@[simp] theorem State.setPair_de_sp (s : State) (v : Word) : (s.setPair .de v).sp = s.sp := rfl
@[simp] theorem State.setPair_de_pc (s : State) (v : Word) : (s.setPair .de v).pc = s.pc := rfl
@[simp] theorem State.setPair_de_flags (s : State) (v : Word) : (s.setPair .de v).flags = s.flags := rfl
@[simp] theorem State.setPair_de_inte (s : State) (v : Word) : (s.setPair .de v).inte = s.inte := rfl
@[simp] theorem State.setPair_de_mem (s : State) (v : Word) : (s.setPair .de v).mem = s.mem := rfl
@[simp] theorem State.setPair_de_result (s : State) (v : Word) : (s.setPair .de v).result = s.result := rfl
@[simp] theorem State.setPair_hl_a (s : State) (v : Word) : (s.setPair .hl v).a = s.a := rfl
@[simp] theorem State.setPair_hl_b (s : State) (v : Word) : (s.setPair .hl v).b = s.b := rfl
@[simp] theorem State.setPair_hl_c (s : State) (v : Word) : (s.setPair .hl v).c = s.c := rfl
@[simp] theorem State.setPair_hl_d (s : State) (v : Word) : (s.setPair .hl v).d = s.d := rfl
@[simp] theorem State.setPair_hl_e (s : State) (v : Word) : (s.setPair .hl v).e = s.e := rfl
@[simp] theorem State.setPair_hl_h (s : State) (v : Word) : (s.setPair .hl v).h = hiByte v := rfl
@[simp] theorem State.setPair_hl_l (s : State) (v : Word) : (s.setPair .hl v).l = loByte v := rfl
@[simp] theorem State.setPair_hl_sp (s : State) (v : Word) : (s.setPair .hl v).sp = s.sp := rfl
@[simp] theorem State.setPair_hl_pc (s : State) (v : Word) : (s.setPair .hl v).pc = s.pc := rfl
@[simp] theorem State.setPair_hl_flags (s : State) (v : Word) : (s.setPair .hl v).flags = s.flags := rfl
@[simp] theorem State.setPair_hl_inte (s : State) (v : Word) : (s.setPair .hl v).inte = s.inte := rfl
@[simp] theorem State.setPair_hl_mem (s : State) (v : Word) : (s.setPair .hl v).mem = s.mem := rfl
@[simp] theorem State.setPair_hl_result (s : State) (v : Word) : (s.setPair .hl v).result = s.result := rfl
@[simp] theorem State.setPair_sp_a (s : State) (v : Word) : (s.setPair .sp v).a = s.a := rfl
@[simp] theorem State.setPair_sp_b (s : State) (v : Word) : (s.setPair .sp v).b = s.b := rfl
@[simp] theorem State.setPair_sp_c (s : State) (v : Word) : (s.setPair .sp v).c = s.c := rfl
@[simp] theorem State.setPair_sp_d (s : State) (v : Word) : (s.setPair .sp v).d = s.d := rfl
@[simp] theorem State.setPair_sp_e (s : State) (v : Word) : (s.setPair .sp v).e = s.e := rfl
@[simp] theorem State.setPair_sp_h (s : State) (v : Word) : (s.setPair .sp v).h = s.h := rfl
@[simp] theorem State.setPair_sp_l (s : State) (v : Word) : (s.setPair .sp v).l = s.l := rfl
@[simp] theorem State.setPair_sp_sp (s : State) (v : Word) : (s.setPair .sp v).sp = v := rfl
@[simp] theorem State.setPair_sp_pc (s : State) (v : Word) : (s.setPair .sp v).pc = s.pc := rfl
@[simp] theorem State.setPair_sp_flags (s : State) (v : Word) : (s.setPair .sp v).flags = s.flags := rfl
@[simp] theorem State.setPair_sp_inte (s : State) (v : Word) : (s.setPair .sp v).inte = s.inte := rfl
@[simp] theorem State.setPair_sp_mem (s : State) (v : Word) : (s.setPair .sp v).mem = s.mem := rfl
@[simp] theorem State.setPair_sp_result (s : State) (v : Word) : (s.setPair .sp v).result = s.result := rfl
@[simp] theorem State.setPair_psw_a (s : State) (v : Word) : (s.setPair .psw v).a = hiByte v := rfl
@[simp] theorem State.setPair_psw_b (s : State) (v : Word) : (s.setPair .psw v).b = s.b := rfl
@[simp] theorem State.setPair_psw_c (s : State) (v : Word) : (s.setPair .psw v).c = s.c := rfl
@[simp] theorem State.setPair_psw_d (s : State) (v : Word) : (s.setPair .psw v).d = s.d := rfl
@[simp] theorem State.setPair_psw_e (s : State) (v : Word) : (s.setPair .psw v).e = s.e := rfl
@[simp] theorem State.setPair_psw_h (s : State) (v : Word) : (s.setPair .psw v).h = s.h := rfl
@[simp] theorem State.setPair_psw_l (s : State) (v : Word) : (s.setPair .psw v).l = s.l := rfl
@[simp] theorem State.setPair_psw_sp (s : State) (v : Word) : (s.setPair .psw v).sp = s.sp := rfl
@[simp] theorem State.setPair_psw_pc (s : State) (v : Word) : (s.setPair .psw v).pc = s.pc := rfl
@[simp] theorem State.setPair_psw_flags (s : State) (v : Word) : (s.setPair .psw v).flags = unpackPSW (loByte v) := rfl
@[simp] theorem State.setPair_psw_inte (s : State) (v : Word) : (s.setPair .psw v).inte = s.inte := rfl
@[simp] theorem State.setPair_psw_mem (s : State) (v : Word) : (s.setPair .psw v).mem = s.mem := rfl
@[simp] theorem State.setPair_psw_result (s : State) (v : Word) : (s.setPair .psw v).result = s.result := rfl

@[simp] theorem State.memWrite_a (s : State) (addr : Word) (v : Byte) : (s.memWrite addr v).a = s.a := rfl
@[simp] theorem State.memWrite_b (s : State) (addr : Word) (v : Byte) : (s.memWrite addr v).b = s.b := rfl
@[simp] theorem State.memWrite_c (s : State) (addr : Word) (v : Byte) : (s.memWrite addr v).c = s.c := rfl
@[simp] theorem State.memWrite_d (s : State) (addr : Word) (v : Byte) : (s.memWrite addr v).d = s.d := rfl
@[simp] theorem State.memWrite_e (s : State) (addr : Word) (v : Byte) : (s.memWrite addr v).e = s.e := rfl
@[simp] theorem State.memWrite_h (s : State) (addr : Word) (v : Byte) : (s.memWrite addr v).h = s.h := rfl
@[simp] theorem State.memWrite_l (s : State) (addr : Word) (v : Byte) : (s.memWrite addr v).l = s.l := rfl
@[simp] theorem State.memWrite_sp (s : State) (addr : Word) (v : Byte) : (s.memWrite addr v).sp = s.sp := rfl
@[simp] theorem State.memWrite_pc (s : State) (addr : Word) (v : Byte) : (s.memWrite addr v).pc = s.pc := rfl
@[simp] theorem State.memWrite_flags (s : State) (addr : Word) (v : Byte) : (s.memWrite addr v).flags = s.flags := rfl
@[simp] theorem State.memWrite_inte (s : State) (addr : Word) (v : Byte) : (s.memWrite addr v).inte = s.inte := rfl
@[simp] theorem State.memWrite_mem (s : State) (addr : Word) (v : Byte) : (s.memWrite addr v).mem = s.mem.write addr.toNat v := rfl
@[simp] theorem State.memWrite_result (s : State) (addr : Word) (v : Byte) : (s.memWrite addr v).result = s.result := rfl

@[simp] theorem State.memWrite16_a (s : State) (addr v : Word) : (s.memWrite16 addr v).a = s.a := rfl
@[simp] theorem State.memWrite16_b (s : State) (addr v : Word) : (s.memWrite16 addr v).b = s.b := rfl
@[simp] theorem State.memWrite16_c (s : State) (addr v : Word) : (s.memWrite16 addr v).c = s.c := rfl
@[simp] theorem State.memWrite16_d (s : State) (addr v : Word) : (s.memWrite16 addr v).d = s.d := rfl
@[simp] theorem State.memWrite16_e (s : State) (addr v : Word) : (s.memWrite16 addr v).e = s.e := rfl
@[simp] theorem State.memWrite16_h (s : State) (addr v : Word) : (s.memWrite16 addr v).h = s.h := rfl
@[simp] theorem State.memWrite16_l (s : State) (addr v : Word) : (s.memWrite16 addr v).l = s.l := rfl
@[simp] theorem State.memWrite16_sp (s : State) (addr v : Word) : (s.memWrite16 addr v).sp = s.sp := rfl
@[simp] theorem State.memWrite16_pc (s : State) (addr v : Word) : (s.memWrite16 addr v).pc = s.pc := rfl
@[simp] theorem State.memWrite16_flags (s : State) (addr v : Word) : (s.memWrite16 addr v).flags = s.flags := rfl
@[simp] theorem State.memWrite16_inte (s : State) (addr v : Word) : (s.memWrite16 addr v).inte = s.inte := rfl
@[simp] theorem State.memWrite16_result (s : State) (addr v : Word) : (s.memWrite16 addr v).result = s.result := rfl
@[simp] theorem State.memWrite16_mem (s : State) (addr v : Word) : (s.memWrite16 addr v).mem = (s.mem.write addr.toNat (loByte v)).write (addr + 1).toNat (hiByte v) := rfl

@[simp] theorem State.push16_a (s : State) (v : Word) : (s.push16 v).a = s.a := rfl
@[simp] theorem State.push16_b (s : State) (v : Word) : (s.push16 v).b = s.b := rfl
@[simp] theorem State.push16_c (s : State) (v : Word) : (s.push16 v).c = s.c := rfl
@[simp] theorem State.push16_d (s : State) (v : Word) : (s.push16 v).d = s.d := rfl
@[simp] theorem State.push16_e (s : State) (v : Word) : (s.push16 v).e = s.e := rfl
@[simp] theorem State.push16_h (s : State) (v : Word) : (s.push16 v).h = s.h := rfl
@[simp] theorem State.push16_l (s : State) (v : Word) : (s.push16 v).l = s.l := rfl
@[simp] theorem State.push16_sp (s : State) (v : Word) : (s.push16 v).sp = s.sp - 2 := rfl
@[simp] theorem State.push16_pc (s : State) (v : Word) : (s.push16 v).pc = s.pc := rfl
@[simp] theorem State.push16_flags (s : State) (v : Word) : (s.push16 v).flags = s.flags := rfl
@[simp] theorem State.push16_inte (s : State) (v : Word) : (s.push16 v).inte = s.inte := rfl
@[simp] theorem State.push16_mem (s : State) (v : Word) : (s.push16 v).mem = (s.mem.write (s.sp - 1).toNat (hiByte v)).write (s.sp - 2).toNat (loByte v) := rfl
@[simp] theorem State.push16_result (s : State) (v : Word) : (s.push16 v).result = s.result := rfl

@[simp] theorem State.dropTop_a (s : State) : (s.dropTop).a = s.a := rfl
@[simp] theorem State.dropTop_b (s : State) : (s.dropTop).b = s.b := rfl
@[simp] theorem State.dropTop_c (s : State) : (s.dropTop).c = s.c := rfl
@[simp] theorem State.dropTop_d (s : State) : (s.dropTop).d = s.d := rfl
@[simp] theorem State.dropTop_e (s : State) : (s.dropTop).e = s.e := rfl
@[simp] theorem State.dropTop_h (s : State) : (s.dropTop).h = s.h := rfl
@[simp] theorem State.dropTop_l (s : State) : (s.dropTop).l = s.l := rfl
@[simp] theorem State.dropTop_sp (s : State) : (s.dropTop).sp = s.sp + 2 := rfl
@[simp] theorem State.dropTop_pc (s : State) : (s.dropTop).pc = s.pc := rfl
@[simp] theorem State.dropTop_flags (s : State) : (s.dropTop).flags = s.flags := rfl
@[simp] theorem State.dropTop_inte (s : State) : (s.dropTop).inte = s.inte := rfl
@[simp] theorem State.dropTop_mem (s : State) : (s.dropTop).mem = s.mem := rfl
@[simp] theorem State.dropTop_result (s : State) : (s.dropTop).result = s.result := rfl

@[simp] theorem State.withAlu_a (s : State) (r : Byte × Flags) : (s.withAlu r).a = r.1 := rfl
@[simp] theorem State.withAlu_b (s : State) (r : Byte × Flags) : (s.withAlu r).b = s.b := rfl
@[simp] theorem State.withAlu_c (s : State) (r : Byte × Flags) : (s.withAlu r).c = s.c := rfl
@[simp] theorem State.withAlu_d (s : State) (r : Byte × Flags) : (s.withAlu r).d = s.d := rfl
@[simp] theorem State.withAlu_e (s : State) (r : Byte × Flags) : (s.withAlu r).e = s.e := rfl
@[simp] theorem State.withAlu_h (s : State) (r : Byte × Flags) : (s.withAlu r).h = s.h := rfl
@[simp] theorem State.withAlu_l (s : State) (r : Byte × Flags) : (s.withAlu r).l = s.l := rfl
@[simp] theorem State.withAlu_sp (s : State) (r : Byte × Flags) : (s.withAlu r).sp = s.sp := rfl
@[simp] theorem State.withAlu_pc (s : State) (r : Byte × Flags) : (s.withAlu r).pc = s.pc := rfl
@[simp] theorem State.withAlu_flags (s : State) (r : Byte × Flags) : (s.withAlu r).flags = r.2 := rfl
@[simp] theorem State.withAlu_inte (s : State) (r : Byte × Flags) : (s.withAlu r).inte = s.inte := rfl
@[simp] theorem State.withAlu_mem (s : State) (r : Byte × Flags) : (s.withAlu r).mem = s.mem := rfl
@[simp] theorem State.withAlu_result (s : State) (r : Byte × Flags) : (s.withAlu r).result = s.result := rfl

@[simp] theorem State.applyReset_a (s : State) : (s.applyReset).a = s.a := rfl
@[simp] theorem State.applyReset_b (s : State) : (s.applyReset).b = s.b := rfl
@[simp] theorem State.applyReset_c (s : State) : (s.applyReset).c = s.c := rfl
@[simp] theorem State.applyReset_d (s : State) : (s.applyReset).d = s.d := rfl
@[simp] theorem State.applyReset_e (s : State) : (s.applyReset).e = s.e := rfl
@[simp] theorem State.applyReset_h (s : State) : (s.applyReset).h = s.h := rfl
@[simp] theorem State.applyReset_l (s : State) : (s.applyReset).l = s.l := rfl
@[simp] theorem State.applyReset_sp (s : State) : (s.applyReset).sp = s.sp := rfl
@[simp] theorem State.applyReset_pc (s : State) : (s.applyReset).pc = Config.resetPC := rfl
@[simp] theorem State.applyReset_flags (s : State) : (s.applyReset).flags = { s.flags with ac := Config.resetAC } := rfl
@[simp] theorem State.applyReset_inte (s : State) : (s.applyReset).inte = Config.resetINTE := rfl
@[simp] theorem State.applyReset_mem (s : State) : (s.applyReset).mem = s.mem := rfl
@[simp] theorem State.applyReset_result (s : State) : (s.applyReset).result = s.result := rfl

@[simp] theorem State.reg_b (s : State) : s.reg .b = s.b := rfl
@[simp] theorem State.reg_c (s : State) : s.reg .c = s.c := rfl
@[simp] theorem State.reg_d (s : State) : s.reg .d = s.d := rfl
@[simp] theorem State.reg_e (s : State) : s.reg .e = s.e := rfl
@[simp] theorem State.reg_h (s : State) : s.reg .h = s.h := rfl
@[simp] theorem State.reg_l (s : State) : s.reg .l = s.l := rfl
@[simp] theorem State.reg_a (s : State) : s.reg .a = s.a := rfl

@[simp] theorem State.reg_setReg (s : State) (r r' : Reg) (v : Byte) :
    (s.setReg r v).reg r' = if r = r' then v else s.reg r' := by
  cases r <;> cases r' <;> rfl

@[simp] theorem State.pair_bc (s : State) : s.pair .bc = joinBytes s.b s.c := rfl
@[simp] theorem State.pair_de (s : State) : s.pair .de = joinBytes s.d s.e := rfl
@[simp] theorem State.pair_hl (s : State) : s.pair .hl = joinBytes s.h s.l := rfl
@[simp] theorem State.pair_sp (s : State) : s.pair .sp = s.sp := rfl
@[simp] theorem State.pair_psw (s : State) : s.pair .psw = joinBytes s.a (packPSW s.flags) := rfl
@[simp] theorem State.readOperand_r (s : State) (r : Reg) : s.readOperand (.r r) = s.reg r := rfl
@[simp] theorem State.readOperand_m (s : State) : s.readOperand .m = s.memRead s.hl := rfl
@[simp] theorem State.writeOperand_r (s : State) (r : Reg) (v : Byte) : s.writeOperand (.r r) v = s.setReg r v := rfl
@[simp] theorem State.writeOperand_m (s : State) (v : Byte) : s.writeOperand .m v = s.memWrite s.hl v := rfl

/-- A register write and a flag write are independent. -/
theorem State.setReg_flags_comm (s : State) (r : Reg) (v : Byte) (f : Flags) :
    { s.setReg r v with flags := f } = ({ s with flags := f } : State).setReg r v := by
  cases r <;> rfl

end Sys2Proof.Machine
end

