-- ==== Sys2Proof/Laws/Memory.lean ====
section
/-! SUPPORT. The laws of memory: a read after a write, the bytes a write leaves alone, and the canonical form, which every memory
operation keeps. -/

namespace Sys2Proof.Machine

theorem Memory.read_remove (m : Memory) (k j : Nat) :
    (m.remove k).read j = if j = k then Config.unlistedByte else m.read j := by
  induction m with
  | nil => simp [Memory.remove, Memory.read]
  | cons c rest ih =>
    obtain ⟨q, v⟩ := c
    simp only [Memory.remove, Memory.read]
    by_cases hq : q = k
    · rw [if_pos hq, ih]
      by_cases hj : j = k
      · simp [hj]
      · rw [if_neg hj, if_neg hj, if_neg (by omega)]
    · rw [if_neg hq]
      simp only [Memory.read, ih]
      by_cases hqj : q = j
      · rw [if_pos hqj, if_pos hqj, if_neg (by omega)]
      · rw [if_neg hqj, if_neg hqj]

/-- An entry placed where its address is not listed is what its address reads. -/
theorem Memory.read_place (m : Memory) (k j : Nat) (x : Byte) (hk : ∀ v, (k, v) ∉ m) :
    (m.place k x).read j = if j = k then x else m.read j := by
  induction m with
  | nil =>
    simp only [Memory.place, Memory.read]
    by_cases h : j = k
    · simp [h]
    · rw [if_neg (Ne.symm h), if_neg h]
  | cons c rest ih =>
    obtain ⟨q, v⟩ := c
    have hq : q ≠ k := fun h => hk v (by simp [h])
    have ih' := ih (fun w hw => hk w (List.mem_cons_of_mem _ hw))
    simp only [Memory.place]
    split
    · simp only [Memory.read]
      by_cases h : j = k
      · simp [h]
      · rw [if_neg (Ne.symm h), if_neg h]
    · simp only [Memory.read, ih']
      by_cases hqj : q = j
      · rw [if_pos hqj, if_pos hqj, if_neg (by omega)]
      · rw [if_neg hqj, if_neg hqj]

theorem Memory.not_mem_remove (m : Memory) (k : Nat) (v : Byte) : (k, v) ∉ m.remove k := by
  induction m with
  | nil => simp [Memory.remove]
  | cons c rest ih =>
    obtain ⟨q, w⟩ := c
    simp only [Memory.remove]
    split
    · exact ih
    · rename_i h
      simp only [List.mem_cons, Prod.mk.injEq, not_or]
      exact ⟨fun h' => h h'.1.symm, ih⟩

/-- What any address reads after a write: the byte written there, and everywhere else what it read before. -/
theorem Memory.read_write (m : Memory) (k j : Nat) (x : Byte) :
    (m.write k x).read j = if j = k then x else m.read j := by
  unfold Memory.write
  split
  · rename_i h; rw [Memory.read_remove, h]
  · rw [Memory.read_place _ _ _ _ (Memory.not_mem_remove m k), Memory.read_remove]
    split <;> rfl

theorem Memory.wfFrom_mono {m : Memory} {lo lo' : Nat} (h : lo' ≤ lo) (hm : m.wfFrom lo = true) : m.wfFrom lo' = true := by
  cases m with
  | nil => rfl
  | cons c rest =>
    obtain ⟨k, v⟩ := c
    simp only [Memory.wfFrom, Bool.and_eq_true, decide_eq_true_eq] at hm ⊢
    exact ⟨⟨⟨by omega, hm.1.1.2⟩, hm.1.2⟩, hm.2⟩

theorem Memory.wfFrom_remove {m : Memory} {lo : Nat} (k : Nat) (hm : m.wfFrom lo = true) : (m.remove k).wfFrom lo = true := by
  induction m generalizing lo with
  | nil => rfl
  | cons c rest ih =>
    obtain ⟨q, v⟩ := c
    simp only [Memory.wfFrom, Bool.and_eq_true, decide_eq_true_eq] at hm
    simp only [Memory.remove]
    split
    · exact Memory.wfFrom_mono (by omega) (ih hm.2)
    · simp only [Memory.wfFrom, Bool.and_eq_true, decide_eq_true_eq]
      exact ⟨hm.1, ih hm.2⟩

theorem Memory.wfFrom_place {m : Memory} {lo k : Nat} {x : Byte} (hk : k < Config.memBytes) (hx : x ≠ Config.unlistedByte)
    (hlo : lo ≤ k) (hn : ∀ v, (k, v) ∉ m) (hm : m.wfFrom lo = true) : (m.place k x).wfFrom lo = true := by
  induction m generalizing lo with
  | nil => simp [Memory.place, Memory.wfFrom, hk, hx, hlo]
  | cons c rest ih =>
    obtain ⟨q, v⟩ := c
    have hq : q ≠ k := fun h => hn v (by simp [h])
    simp only [Memory.wfFrom, Bool.and_eq_true, decide_eq_true_eq] at hm
    simp only [Memory.place]
    split
    · simp only [Memory.wfFrom, Bool.and_eq_true, decide_eq_true_eq]
      exact ⟨⟨⟨hlo, hk⟩, hx⟩, ⟨⟨by omega, hm.1.1.2⟩, hm.1.2⟩, hm.2⟩
    · simp only [Memory.wfFrom, Bool.and_eq_true, decide_eq_true_eq]
      exact ⟨hm.1, ih (by omega) (fun w hw => hn w (List.mem_cons_of_mem _ hw)) hm.2⟩

/-- A write at an address of the memory keeps the canonical form. -/
theorem Memory.wf_write {m : Memory} {k : Nat} (x : Byte) (hk : k < Config.memBytes) (hm : m.wf = true) :
    (m.write k x).wf = true := by
  unfold Memory.write Memory.wf
  split
  · exact Memory.wfFrom_remove k hm
  · rename_i hx
    exact Memory.wfFrom_place hk hx (Nat.zero_le k) (Memory.not_mem_remove m k) (Memory.wfFrom_remove k hm)

@[simp] theorem Memory.wf_nil : Memory.wf [] = true := rfl

/-- The memory of the state after reset has the canonical form. -/
theorem State.reset_mem_wf : State.reset.mem.wf = true := rfl

theorem Memory.read_eq_of_lt {m : Memory} {lo k : Nat} (hm : m.wfFrom lo = true) (hk : k < lo) :
    m.read k = Config.unlistedByte := by
  induction m generalizing lo with
  | nil => rfl
  | cons c rest ih =>
    obtain ⟨q, v⟩ := c
    simp only [Memory.wfFrom, Bool.and_eq_true, decide_eq_true_eq] at hm
    rw [Memory.read, if_neg (by omega)]
    exact ih hm.2 (by omega)

/-- Two memories in canonical form that read the same at every address are equal. -/
theorem Memory.eq_of_read {m n : Memory} {lo : Nat} (hm : m.wfFrom lo = true) (hn : n.wfFrom lo = true)
    (h : ∀ k, m.read k = n.read k) : m = n := by
  induction m generalizing n lo with
  | nil =>
    cases n with
    | nil => rfl
    | cons c rest =>
      obtain ⟨q, v⟩ := c
      simp only [Memory.wfFrom, Bool.and_eq_true, decide_eq_true_eq] at hn
      have := h q
      simp only [Memory.read, if_true] at this
      exact absurd this.symm hn.1.2
  | cons c rest ih =>
    obtain ⟨q, v⟩ := c
    have hm' := hm
    simp only [Memory.wfFrom, Bool.and_eq_true, decide_eq_true_eq] at hm
    cases n with
    | nil =>
      have := h q
      simp only [Memory.read, if_true] at this
      exact absurd this hm.1.2
    | cons c' rest' =>
      obtain ⟨q', v'⟩ := c'
      have hn' := hn
      simp only [Memory.wfFrom, Bool.and_eq_true, decide_eq_true_eq] at hn
      have hq : q = q' := by
        rcases Nat.lt_trichotomy q q' with hlt | heq | hgt
        · have := h q
          rw [Memory.read, if_pos rfl, Memory.read, if_neg (by omega), Memory.read_eq_of_lt hn.2 (by omega)] at this
          exact absurd this hm.1.2
        · exact heq
        · have := h q'
          rw [Memory.read, if_neg (by omega), Memory.read_eq_of_lt hm.2 (by omega), Memory.read, if_pos rfl] at this
          exact absurd this.symm hn.1.2
      subst hq
      have hv : v = v' := by
        have := h q
        simpa [Memory.read] using this
      subst hv
      congr 1
      refine ih hm.2 hn.2 (fun k => ?_)
      by_cases hk : q = k
      · subst hk
        rw [Memory.read_eq_of_lt hm.2 (Nat.lt_succ_self q), Memory.read_eq_of_lt hn.2 (Nat.lt_succ_self q)]
      · have := h k
        simpa [Memory.read, hk] using this

/-- One byte of the state after a byte write. -/
@[simp] theorem State.memRead_memWrite (s : State) (addr j : Word) (v : Byte) :
    (s.memWrite addr v).memRead j = if j = addr then v else s.memRead j := by
  simp only [State.memRead, State.memWrite_mem, Memory.read_write]
  by_cases h : j = addr
  · simp [h]
  · rw [if_neg h, if_neg (fun h' => h (BitVec.eq_of_toNat_eq h'))]

/-- A byte is read from memory alone. -/
theorem State.memRead_of_mem {s t : State} (h : t.mem = s.mem) (a : Word) : t.memRead a = s.memRead a := by
  simp [State.memRead, h]

/-- One byte of the state after a word write. -/
@[simp] theorem State.memRead_memWrite16 (s : State) (addr j v : Word) :
    (s.memWrite16 addr v).memRead j =
      if j = addr + 1 then hiByte v else if j = addr then loByte v else s.memRead j := by
  simp [State.memWrite16]

/-- One byte of the state after a push: the high byte at SP-1, the low byte at SP-2, the rest as before. -/
@[simp] theorem State.memRead_push16 (s : State) (j v : Word) :
    (s.push16 v).memRead j =
      if j = s.sp - 2 then loByte v else if j = s.sp - 1 then hiByte v else s.memRead j := by
  have h : (s.push16 v).memRead j = (((s.memWrite (s.sp - 1) (hiByte v)).memWrite (s.sp - 2) (loByte v))).memRead j := rfl
  rw [h]; simp

/-- An address and the next one differ, at 0xFFFF too. -/
theorem addr_ne_succ (a : Word) : a ≠ a + 1 := by bv_omega

theorem addr_succ_ne (a : Word) : a + 1 ≠ a := by bv_omega

/-- The two bytes a push stores are at different addresses, for every SP. -/
theorem push_addrs_ne (a : Word) : a - 1 ≠ a - 2 := by bv_omega

/-- The high byte of the word at SP - 2 is at SP - 1. -/
theorem sub_two_add_one (a : Word) : a - 2 + 1 = a - 1 := by bv_omega

theorem sub_two_add_two (a : Word) : a - 2 + 2 = a := by bv_omega

/-- What a pop would read right after a push: the value pushed, for every SP (R51, R52). -/
@[simp] theorem State.top16_push16 (s : State) (v : Word) : (s.push16 v).top16 = v := by
  unfold State.top16
  rw [State.push16_sp, sub_two_add_one, State.memRead_push16, State.memRead_push16, if_neg (push_addrs_ne s.sp), if_pos rfl,
    if_pos rfl, joinBytes_hi_lo]

/-- A byte write of the state keeps the canonical form of memory. -/
theorem State.wf_memWrite {s : State} (addr : Word) (v : Byte) (h : s.mem.wf = true) : (s.memWrite addr v).mem.wf = true :=
  Memory.wf_write v addr.isLt h

theorem State.wf_memWrite16 {s : State} (addr v : Word) (h : s.mem.wf = true) : (s.memWrite16 addr v).mem.wf = true :=
  State.wf_memWrite _ _ (State.wf_memWrite _ _ h)

theorem State.wf_push16 {s : State} (v : Word) (h : s.mem.wf = true) : (s.push16 v).mem.wf = true :=
  State.wf_memWrite (s.sp - 2) _ (State.wf_memWrite (s.sp - 1) _ h)

theorem State.wf_setReg {s : State} (r : Reg) (v : Byte) (h : s.mem.wf = true) : (s.setReg r v).mem.wf = true := by
  simpa using h

theorem State.wf_setPair {s : State} (rp : PairName) (v : Word) (h : s.mem.wf = true) : (s.setPair rp v).mem.wf = true := by
  cases rp <;> exact h

theorem State.wf_writeOperand {s : State} (o : Operand) (v : Byte) (h : s.mem.wf = true) : (s.writeOperand o v).mem.wf = true := by
  cases o with
  | r reg => exact State.wf_setReg reg v h
  | m => exact State.wf_memWrite s.hl v h

theorem State.wf_storeBytes {s : State} (addr : Word) (bs : List Byte) (h : s.mem.wf = true) :
    (s.storeBytes addr bs).mem.wf = true := by
  induction bs generalizing s addr with
  | nil => exact h
  | cons v rest ih => exact ih _ (State.wf_memWrite addr v h)

theorem State.wf_withFetchWord {s : State} (nbits w : Nat) (h : s.mem.wf = true) : (s.withFetchWord nbits w).mem.wf = true :=
  State.wf_storeBytes _ _ h

end Sys2Proof.Machine
end

