-- ==== Sys2Proof/Laws/Exec.lean ====
section
/-! SUPPORT. The meaning of an instruction read off its assembler form: `exec` of 256 constructors seen as some forty shapes, so that a
proof about a family is one case. -/

namespace Sys2Proof.Machine

/-- The shared operation an ALU instruction runs, on its operand and with its length. -/
def aluWith : AluOp → Byte → Word → State → Out
  | .add => addWith
  | .adc => adcWith
  | .sub => subWith
  | .sbb => sbbWith
  | .ana => anaWith
  | .xra => xraWith
  | .ora => oraWith
  | .cmp => cmpWith

/-- The meaning of an assembler term. -/
def meaning : Asm → State → Out
  | .mov dst src => move dst src
  | .mvi dst d8 => moveImmediate dst d8
  | .lxi rp d16 => loadPairImmediate rp d16
  | .lda a16 => loadDirect a16
  | .sta a16 => storeDirect a16
  | .lhld a16 => loadHLDirect a16
  | .shld a16 => storeHLDirect a16
  | .ldax rp => loadIndirect rp
  | .stax rp => storeIndirect rp
  | .xchg => exchangeHLDE
  | .alu op src => fun s => aluWith op (s.readOperand src) 1 s
  | .aluI op d8 => aluWith op d8 2
  | .inr dst => increment dst
  | .dcr dst => decrement dst
  | .inx rp => incrementPair rp
  | .dcx rp => decrementPair rp
  | .dad rp => addPairToHL rp
  | .daa => noOperation
  | .rlc => rotateLeft
  | .rrc => rotateRight
  | .ral => rotateLeftThroughCarry
  | .rar => rotateRightThroughCarry
  | .cma => complementA
  | .cmc => complementCarry
  | .stc => setCarry
  | .jmp a16 => jump a16
  | .jcc cond a16 => jumpIf cond a16
  | .call a16 => callTo a16
  | .ccc cond a16 => callIf cond a16
  | .ret => returnFromCall
  | .rcc cond => returnIf cond
  | .rst n => restart n
  | .pchl => fun s => jump s.hl s
  | .push rp => pushPair rp
  | .pop rp => popPair rp
  | .xthl => exchangeHLStack
  | .sphl => loadSPFromHL
  | .ei => setInterruptEnable true
  | .di => setInterruptEnable false
  | .hlt => halt
  | .nop => noOperation
  | .unimplemented op => raiseUnimplemented op

/-- Every instruction runs the meaning of its assembler reading. -/
theorem exec_eq_meaning (i : Instr) (s : State) : exec i s = meaning i.asm s := by
  cases i <;> rfl

/-- The reading of every instruction is well formed, so a proof may leave the other terms out. -/
theorem asm_wellFormed (i : Instr) : i.asm.wellFormed = true := by
  cases i <;> rfl

/-- What `advance` answers. -/
theorem advance_eq (len : Word) (s : State) : advance len s = .next { s with pc := s.pc + len, result := .cont } := rfl

/-- What `jump` answers. -/
theorem jump_eq (target : Word) (s : State) : jump target s = .next { s with pc := target, result := .cont } := rfl

/-- What a call answers: the return address below SP, the target in PC, and nothing else but the result. -/
theorem callThrough_eq (len target : Word) (s : State) :
    callThrough len target s = .next { s.push16 (s.pc + len) with pc := target, result := .cont } := rfl

/-- What a return answers. -/
theorem returnFromCall_eq (s : State) :
    returnFromCall s = .next { s with sp := s.sp + 2, pc := s.top16, result := .cont } := rfl

/-- What the interrupt operation answers where it is taken: PC below SP, the vector in PC, INTE cleared, and nothing else. -/
theorem interrupt_taken {n : Nat} {s : State} (hn : n < Config.vectorCount) (h : s.inte = true) :
    interrupt n s = .next { s.push16 s.pc with pc := vectorAddress n, inte := false } := by
  simp only [interrupt, hn, h, if_true]

/-- What it answers where interrupts are disabled: the state as it was. -/
theorem interrupt_ignored {n : Nat} {s : State} (hn : n < Config.vectorCount) (h : s.inte = false) : interrupt n s = .next s := by
  simp [interrupt, hn, h]

/-- What it answers for a vector out of range, whatever INTE is. -/
theorem interrupt_invalid {n : Nat} (s : State) (hn : ¬ n < Config.vectorCount) : interrupt n s = .fault .invalidInterrupt := by
  simp only [interrupt, hn, if_false]

/-- A vector is at 8 times its number. -/
theorem vectorAddress_toNat {n : Nat} (hn : n < Config.vectorCount) : (vectorAddress n).toNat = 8 * n := by
  simp only [Config.vectorCount] at hn
  simp only [vectorAddress, Config.vectorStride, BitVec.toNat_ofNat]
  omega

/-- The interrupt operation keeps the canonical form of memory. -/
theorem interrupt_wf {n : Nat} {s t : State} (hw : s.mem.wf = true) (h : interrupt n s = .next t) : t.mem.wf = true := by
  unfold interrupt at h
  split at h
  · split at h
    · cases h; exact State.wf_push16 s.pc hw
    · cases h; exact hw
  · cases h

end Sys2Proof.Machine
end

