-- ==== Sys2Proof/Laws/Operations.lean ====
section
/-! SUPPORT. The laws of schedules of host operations: what one operation leaves, and how schedules and the ends of runs compose. -/

namespace Sys2Proof.Machine

/-- The state after an operation that completes. -/
theorem stateAfter_of_next {op : Operation} {s t : State} (h : perform op s = .next t) : stateAfter op s = t := by
  simp only [stateAfter, h]

/-- An operation that fails changes nothing. -/
theorem stateAfter_of_fault {op : Operation} {s : State} {f : Fault} (h : perform op s = .fault f) : stateAfter op s = s := by
  simp only [stateAfter, h]

@[simp] theorem stateAfter_reset (s : State) : stateAfter .reset s = s.applyReset := rfl

@[simp] theorem stateAfter_write (w : HostWrite) (s : State) : stateAfter (.write w) s = w.apply s := rfl

/-- The state after an interrupt operation that is taken. -/
theorem stateAfter_interrupt_taken {n : Nat} {s : State} (hn : n < Config.vectorCount) (h : s.inte = true) :
    stateAfter (.interrupt n) s = { s.push16 s.pc with pc := vectorAddress n, inte := false } :=
  stateAfter_of_next (interrupt_taken hn h)

/-- With INTE false the interrupt operation leaves the state as it is, whatever the vector: ignored in range, an error out of it. -/
theorem stateAfter_interrupt_masked (n : Nat) {s : State} (h : s.inte = false) : stateAfter (.interrupt n) s = s := by
  by_cases hn : n < Config.vectorCount
  · exact stateAfter_of_next (interrupt_ignored hn h)
  · exact stateAfter_of_fault (interrupt_invalid s hn)

@[simp] theorem performAll_nil (s : State) : performAll [] s = s := rfl

@[simp] theorem performAll_cons (op : Operation) (ops : List Operation) (s : State) :
    performAll (op :: ops) s = performAll ops (stateAfter op s) := rfl

/-- A schedule is its first part, then the rest from where that part leads. -/
theorem performAll_append (ops more : List Operation) (s : State) :
    performAll (ops ++ more) s = performAll more (performAll ops s) := by
  induction ops generalizing s with
  | nil => rfl
  | cons op rest ih => exact ih (stateAfter op s)

@[simp] theorem runEnd_nil (s : State) : runEnd [] s = none := rfl

/-- An operation that is no step, or a step with result Continue, ends no run. -/
theorem runEnd_cons {op : Operation} {s : State} (h : operationResult op s = none ∨ operationResult op s = some .cont)
    (ops : List Operation) : runEnd (op :: ops) s = runEnd ops (stateAfter op s) := by
  rcases h with h | h <;> simp only [runEnd, h]

/-- Where the first part of a schedule ends the run, the run of the whole schedule ends there; where it does not, the rest decides. -/
theorem runEnd_append (ops more : List Operation) (s : State) :
    runEnd (ops ++ more) s = (runEnd ops s).or (runEnd more (performAll ops s)) := by
  induction ops generalizing s with
  | nil => rfl
  | cons op rest ih =>
    simp only [List.cons_append, runEnd, performAll_cons, ih]
    cases operationResult op s with
    | none => rfl
    | some r => cases r <;> rfl

end Sys2Proof.Machine
end

