-- ==== Sys2Proof/Laws/PerInstr.lean ====
section
/-! SUPPORT. The per-instruction family `Encoded`: every instruction is well formed, and its bytes are as many as its opcode byte says,
with an opcode cell that the decoder finds. -/

namespace Sys2Proof.Laws.Encoded

/-- The instruction is well formed; its encoding starts with an opcode byte whose length (R71, R77) is the number of bytes. -/
def Statement (i : Instr) : Prop :=
  i.wellFormed = true ∧ ∃ op tail, encode i = op :: tail ∧ opcodeLength op = i.length

theorem nop : Statement .nop := ⟨rfl, _, _, rfl, rfl⟩
theorem lxiB (d16 : Word) : Statement (.lxiB d16) := ⟨rfl, _, _, rfl, rfl⟩
theorem staxB : Statement .staxB := ⟨rfl, _, _, rfl, rfl⟩
theorem inxB : Statement .inxB := ⟨rfl, _, _, rfl, rfl⟩
theorem inrB : Statement .inrB := ⟨rfl, _, _, rfl, rfl⟩
theorem dcrB : Statement .dcrB := ⟨rfl, _, _, rfl, rfl⟩
theorem mviB (d8 : Byte) : Statement (.mviB d8) := ⟨rfl, _, _, rfl, rfl⟩
theorem rlc : Statement .rlc := ⟨rfl, _, _, rfl, rfl⟩
theorem nop08 : Statement .nop08 := ⟨rfl, _, _, rfl, rfl⟩
theorem dadB : Statement .dadB := ⟨rfl, _, _, rfl, rfl⟩
theorem ldaxB : Statement .ldaxB := ⟨rfl, _, _, rfl, rfl⟩
theorem dcxB : Statement .dcxB := ⟨rfl, _, _, rfl, rfl⟩
theorem inrC : Statement .inrC := ⟨rfl, _, _, rfl, rfl⟩
theorem dcrC : Statement .dcrC := ⟨rfl, _, _, rfl, rfl⟩
theorem mviC (d8 : Byte) : Statement (.mviC d8) := ⟨rfl, _, _, rfl, rfl⟩
theorem rrc : Statement .rrc := ⟨rfl, _, _, rfl, rfl⟩
theorem nop10 : Statement .nop10 := ⟨rfl, _, _, rfl, rfl⟩
theorem lxiD (d16 : Word) : Statement (.lxiD d16) := ⟨rfl, _, _, rfl, rfl⟩
theorem staxD : Statement .staxD := ⟨rfl, _, _, rfl, rfl⟩
theorem inxD : Statement .inxD := ⟨rfl, _, _, rfl, rfl⟩
theorem inrD : Statement .inrD := ⟨rfl, _, _, rfl, rfl⟩
theorem dcrD : Statement .dcrD := ⟨rfl, _, _, rfl, rfl⟩
theorem mviD (d8 : Byte) : Statement (.mviD d8) := ⟨rfl, _, _, rfl, rfl⟩
theorem ral : Statement .ral := ⟨rfl, _, _, rfl, rfl⟩
theorem nop18 : Statement .nop18 := ⟨rfl, _, _, rfl, rfl⟩
theorem dadD : Statement .dadD := ⟨rfl, _, _, rfl, rfl⟩
theorem ldaxD : Statement .ldaxD := ⟨rfl, _, _, rfl, rfl⟩
theorem dcxD : Statement .dcxD := ⟨rfl, _, _, rfl, rfl⟩
theorem inrE : Statement .inrE := ⟨rfl, _, _, rfl, rfl⟩
theorem dcrE : Statement .dcrE := ⟨rfl, _, _, rfl, rfl⟩
theorem mviE (d8 : Byte) : Statement (.mviE d8) := ⟨rfl, _, _, rfl, rfl⟩
theorem rar : Statement .rar := ⟨rfl, _, _, rfl, rfl⟩
theorem nop20 : Statement .nop20 := ⟨rfl, _, _, rfl, rfl⟩
theorem lxiH (d16 : Word) : Statement (.lxiH d16) := ⟨rfl, _, _, rfl, rfl⟩
theorem shld (a16 : Word) : Statement (.shld a16) := ⟨rfl, _, _, rfl, rfl⟩
theorem inxH : Statement .inxH := ⟨rfl, _, _, rfl, rfl⟩
theorem inrH : Statement .inrH := ⟨rfl, _, _, rfl, rfl⟩
theorem dcrH : Statement .dcrH := ⟨rfl, _, _, rfl, rfl⟩
theorem mviH (d8 : Byte) : Statement (.mviH d8) := ⟨rfl, _, _, rfl, rfl⟩
theorem daa : Statement .daa := ⟨rfl, _, _, rfl, rfl⟩
theorem nop28 : Statement .nop28 := ⟨rfl, _, _, rfl, rfl⟩
theorem dadH : Statement .dadH := ⟨rfl, _, _, rfl, rfl⟩
theorem lhld (a16 : Word) : Statement (.lhld a16) := ⟨rfl, _, _, rfl, rfl⟩
theorem dcxH : Statement .dcxH := ⟨rfl, _, _, rfl, rfl⟩
theorem inrL : Statement .inrL := ⟨rfl, _, _, rfl, rfl⟩
theorem dcrL : Statement .dcrL := ⟨rfl, _, _, rfl, rfl⟩
theorem mviL (d8 : Byte) : Statement (.mviL d8) := ⟨rfl, _, _, rfl, rfl⟩
theorem cma : Statement .cma := ⟨rfl, _, _, rfl, rfl⟩
theorem nop30 : Statement .nop30 := ⟨rfl, _, _, rfl, rfl⟩
theorem lxiSP (d16 : Word) : Statement (.lxiSP d16) := ⟨rfl, _, _, rfl, rfl⟩
theorem sta (a16 : Word) : Statement (.sta a16) := ⟨rfl, _, _, rfl, rfl⟩
theorem inxSP : Statement .inxSP := ⟨rfl, _, _, rfl, rfl⟩
theorem inrM : Statement .inrM := ⟨rfl, _, _, rfl, rfl⟩
theorem dcrM : Statement .dcrM := ⟨rfl, _, _, rfl, rfl⟩
theorem mviM (d8 : Byte) : Statement (.mviM d8) := ⟨rfl, _, _, rfl, rfl⟩
theorem stc : Statement .stc := ⟨rfl, _, _, rfl, rfl⟩
theorem nop38 : Statement .nop38 := ⟨rfl, _, _, rfl, rfl⟩
theorem dadSP : Statement .dadSP := ⟨rfl, _, _, rfl, rfl⟩
theorem lda (a16 : Word) : Statement (.lda a16) := ⟨rfl, _, _, rfl, rfl⟩
theorem dcxSP : Statement .dcxSP := ⟨rfl, _, _, rfl, rfl⟩
theorem inrA : Statement .inrA := ⟨rfl, _, _, rfl, rfl⟩
theorem dcrA : Statement .dcrA := ⟨rfl, _, _, rfl, rfl⟩
theorem mviA (d8 : Byte) : Statement (.mviA d8) := ⟨rfl, _, _, rfl, rfl⟩
theorem cmc : Statement .cmc := ⟨rfl, _, _, rfl, rfl⟩
theorem movBB : Statement .movBB := ⟨rfl, _, _, rfl, rfl⟩
theorem movBC : Statement .movBC := ⟨rfl, _, _, rfl, rfl⟩
theorem movBD : Statement .movBD := ⟨rfl, _, _, rfl, rfl⟩
theorem movBE : Statement .movBE := ⟨rfl, _, _, rfl, rfl⟩
theorem movBH : Statement .movBH := ⟨rfl, _, _, rfl, rfl⟩
theorem movBL : Statement .movBL := ⟨rfl, _, _, rfl, rfl⟩
theorem movBM : Statement .movBM := ⟨rfl, _, _, rfl, rfl⟩
theorem movBA : Statement .movBA := ⟨rfl, _, _, rfl, rfl⟩
theorem movCB : Statement .movCB := ⟨rfl, _, _, rfl, rfl⟩
theorem movCC : Statement .movCC := ⟨rfl, _, _, rfl, rfl⟩
theorem movCD : Statement .movCD := ⟨rfl, _, _, rfl, rfl⟩
theorem movCE : Statement .movCE := ⟨rfl, _, _, rfl, rfl⟩
theorem movCH : Statement .movCH := ⟨rfl, _, _, rfl, rfl⟩
theorem movCL : Statement .movCL := ⟨rfl, _, _, rfl, rfl⟩
theorem movCM : Statement .movCM := ⟨rfl, _, _, rfl, rfl⟩
theorem movCA : Statement .movCA := ⟨rfl, _, _, rfl, rfl⟩
theorem movDB : Statement .movDB := ⟨rfl, _, _, rfl, rfl⟩
theorem movDC : Statement .movDC := ⟨rfl, _, _, rfl, rfl⟩
theorem movDD : Statement .movDD := ⟨rfl, _, _, rfl, rfl⟩
theorem movDE : Statement .movDE := ⟨rfl, _, _, rfl, rfl⟩
theorem movDH : Statement .movDH := ⟨rfl, _, _, rfl, rfl⟩
theorem movDL : Statement .movDL := ⟨rfl, _, _, rfl, rfl⟩
theorem movDM : Statement .movDM := ⟨rfl, _, _, rfl, rfl⟩
theorem movDA : Statement .movDA := ⟨rfl, _, _, rfl, rfl⟩
theorem movEB : Statement .movEB := ⟨rfl, _, _, rfl, rfl⟩
theorem movEC : Statement .movEC := ⟨rfl, _, _, rfl, rfl⟩
theorem movED : Statement .movED := ⟨rfl, _, _, rfl, rfl⟩
theorem movEE : Statement .movEE := ⟨rfl, _, _, rfl, rfl⟩
theorem movEH : Statement .movEH := ⟨rfl, _, _, rfl, rfl⟩
theorem movEL : Statement .movEL := ⟨rfl, _, _, rfl, rfl⟩
theorem movEM : Statement .movEM := ⟨rfl, _, _, rfl, rfl⟩
theorem movEA : Statement .movEA := ⟨rfl, _, _, rfl, rfl⟩
theorem movHB : Statement .movHB := ⟨rfl, _, _, rfl, rfl⟩
theorem movHC : Statement .movHC := ⟨rfl, _, _, rfl, rfl⟩
theorem movHD : Statement .movHD := ⟨rfl, _, _, rfl, rfl⟩
theorem movHE : Statement .movHE := ⟨rfl, _, _, rfl, rfl⟩
theorem movHH : Statement .movHH := ⟨rfl, _, _, rfl, rfl⟩
theorem movHL : Statement .movHL := ⟨rfl, _, _, rfl, rfl⟩
theorem movHM : Statement .movHM := ⟨rfl, _, _, rfl, rfl⟩
theorem movHA : Statement .movHA := ⟨rfl, _, _, rfl, rfl⟩
theorem movLB : Statement .movLB := ⟨rfl, _, _, rfl, rfl⟩
theorem movLC : Statement .movLC := ⟨rfl, _, _, rfl, rfl⟩
theorem movLD : Statement .movLD := ⟨rfl, _, _, rfl, rfl⟩
theorem movLE : Statement .movLE := ⟨rfl, _, _, rfl, rfl⟩
theorem movLH : Statement .movLH := ⟨rfl, _, _, rfl, rfl⟩
theorem movLL : Statement .movLL := ⟨rfl, _, _, rfl, rfl⟩
theorem movLM : Statement .movLM := ⟨rfl, _, _, rfl, rfl⟩
theorem movLA : Statement .movLA := ⟨rfl, _, _, rfl, rfl⟩
theorem movMB : Statement .movMB := ⟨rfl, _, _, rfl, rfl⟩
theorem movMC : Statement .movMC := ⟨rfl, _, _, rfl, rfl⟩
theorem movMD : Statement .movMD := ⟨rfl, _, _, rfl, rfl⟩
theorem movME : Statement .movME := ⟨rfl, _, _, rfl, rfl⟩
theorem movMH : Statement .movMH := ⟨rfl, _, _, rfl, rfl⟩
theorem movML : Statement .movML := ⟨rfl, _, _, rfl, rfl⟩
theorem hlt : Statement .hlt := ⟨rfl, _, _, rfl, rfl⟩
theorem movMA : Statement .movMA := ⟨rfl, _, _, rfl, rfl⟩
theorem movAB : Statement .movAB := ⟨rfl, _, _, rfl, rfl⟩
theorem movAC : Statement .movAC := ⟨rfl, _, _, rfl, rfl⟩
theorem movAD : Statement .movAD := ⟨rfl, _, _, rfl, rfl⟩
theorem movAE : Statement .movAE := ⟨rfl, _, _, rfl, rfl⟩
theorem movAH : Statement .movAH := ⟨rfl, _, _, rfl, rfl⟩
theorem movAL : Statement .movAL := ⟨rfl, _, _, rfl, rfl⟩
theorem movAM : Statement .movAM := ⟨rfl, _, _, rfl, rfl⟩
theorem movAA : Statement .movAA := ⟨rfl, _, _, rfl, rfl⟩
theorem addB : Statement .addB := ⟨rfl, _, _, rfl, rfl⟩
theorem addC : Statement .addC := ⟨rfl, _, _, rfl, rfl⟩
theorem addD : Statement .addD := ⟨rfl, _, _, rfl, rfl⟩
theorem addE : Statement .addE := ⟨rfl, _, _, rfl, rfl⟩
theorem addH : Statement .addH := ⟨rfl, _, _, rfl, rfl⟩
theorem addL : Statement .addL := ⟨rfl, _, _, rfl, rfl⟩
theorem addM : Statement .addM := ⟨rfl, _, _, rfl, rfl⟩
theorem addA : Statement .addA := ⟨rfl, _, _, rfl, rfl⟩
theorem adcB : Statement .adcB := ⟨rfl, _, _, rfl, rfl⟩
theorem adcC : Statement .adcC := ⟨rfl, _, _, rfl, rfl⟩
theorem adcD : Statement .adcD := ⟨rfl, _, _, rfl, rfl⟩
theorem adcE : Statement .adcE := ⟨rfl, _, _, rfl, rfl⟩
theorem adcH : Statement .adcH := ⟨rfl, _, _, rfl, rfl⟩
theorem adcL : Statement .adcL := ⟨rfl, _, _, rfl, rfl⟩
theorem adcM : Statement .adcM := ⟨rfl, _, _, rfl, rfl⟩
theorem adcA : Statement .adcA := ⟨rfl, _, _, rfl, rfl⟩
theorem subB : Statement .subB := ⟨rfl, _, _, rfl, rfl⟩
theorem subC : Statement .subC := ⟨rfl, _, _, rfl, rfl⟩
theorem subD : Statement .subD := ⟨rfl, _, _, rfl, rfl⟩
theorem subE : Statement .subE := ⟨rfl, _, _, rfl, rfl⟩
theorem subH : Statement .subH := ⟨rfl, _, _, rfl, rfl⟩
theorem subL : Statement .subL := ⟨rfl, _, _, rfl, rfl⟩
theorem subM : Statement .subM := ⟨rfl, _, _, rfl, rfl⟩
theorem subA : Statement .subA := ⟨rfl, _, _, rfl, rfl⟩
theorem sbbB : Statement .sbbB := ⟨rfl, _, _, rfl, rfl⟩
theorem sbbC : Statement .sbbC := ⟨rfl, _, _, rfl, rfl⟩
theorem sbbD : Statement .sbbD := ⟨rfl, _, _, rfl, rfl⟩
theorem sbbE : Statement .sbbE := ⟨rfl, _, _, rfl, rfl⟩
theorem sbbH : Statement .sbbH := ⟨rfl, _, _, rfl, rfl⟩
theorem sbbL : Statement .sbbL := ⟨rfl, _, _, rfl, rfl⟩
theorem sbbM : Statement .sbbM := ⟨rfl, _, _, rfl, rfl⟩
theorem sbbA : Statement .sbbA := ⟨rfl, _, _, rfl, rfl⟩
theorem anaB : Statement .anaB := ⟨rfl, _, _, rfl, rfl⟩
theorem anaC : Statement .anaC := ⟨rfl, _, _, rfl, rfl⟩
theorem anaD : Statement .anaD := ⟨rfl, _, _, rfl, rfl⟩
theorem anaE : Statement .anaE := ⟨rfl, _, _, rfl, rfl⟩
theorem anaH : Statement .anaH := ⟨rfl, _, _, rfl, rfl⟩
theorem anaL : Statement .anaL := ⟨rfl, _, _, rfl, rfl⟩
theorem anaM : Statement .anaM := ⟨rfl, _, _, rfl, rfl⟩
theorem anaA : Statement .anaA := ⟨rfl, _, _, rfl, rfl⟩
theorem xraB : Statement .xraB := ⟨rfl, _, _, rfl, rfl⟩
theorem xraC : Statement .xraC := ⟨rfl, _, _, rfl, rfl⟩
theorem xraD : Statement .xraD := ⟨rfl, _, _, rfl, rfl⟩
theorem xraE : Statement .xraE := ⟨rfl, _, _, rfl, rfl⟩
theorem xraH : Statement .xraH := ⟨rfl, _, _, rfl, rfl⟩
theorem xraL : Statement .xraL := ⟨rfl, _, _, rfl, rfl⟩
theorem xraM : Statement .xraM := ⟨rfl, _, _, rfl, rfl⟩
theorem xraA : Statement .xraA := ⟨rfl, _, _, rfl, rfl⟩
theorem oraB : Statement .oraB := ⟨rfl, _, _, rfl, rfl⟩
theorem oraC : Statement .oraC := ⟨rfl, _, _, rfl, rfl⟩
theorem oraD : Statement .oraD := ⟨rfl, _, _, rfl, rfl⟩
theorem oraE : Statement .oraE := ⟨rfl, _, _, rfl, rfl⟩
theorem oraH : Statement .oraH := ⟨rfl, _, _, rfl, rfl⟩
theorem oraL : Statement .oraL := ⟨rfl, _, _, rfl, rfl⟩
theorem oraM : Statement .oraM := ⟨rfl, _, _, rfl, rfl⟩
theorem oraA : Statement .oraA := ⟨rfl, _, _, rfl, rfl⟩
theorem cmpB : Statement .cmpB := ⟨rfl, _, _, rfl, rfl⟩
theorem cmpC : Statement .cmpC := ⟨rfl, _, _, rfl, rfl⟩
theorem cmpD : Statement .cmpD := ⟨rfl, _, _, rfl, rfl⟩
theorem cmpE : Statement .cmpE := ⟨rfl, _, _, rfl, rfl⟩
theorem cmpH : Statement .cmpH := ⟨rfl, _, _, rfl, rfl⟩
theorem cmpL : Statement .cmpL := ⟨rfl, _, _, rfl, rfl⟩
theorem cmpM : Statement .cmpM := ⟨rfl, _, _, rfl, rfl⟩
theorem cmpA : Statement .cmpA := ⟨rfl, _, _, rfl, rfl⟩
theorem rnz : Statement .rnz := ⟨rfl, _, _, rfl, rfl⟩
theorem popB : Statement .popB := ⟨rfl, _, _, rfl, rfl⟩
theorem jnz (a16 : Word) : Statement (.jnz a16) := ⟨rfl, _, _, rfl, rfl⟩
theorem jmp (a16 : Word) : Statement (.jmp a16) := ⟨rfl, _, _, rfl, rfl⟩
theorem cnz (a16 : Word) : Statement (.cnz a16) := ⟨rfl, _, _, rfl, rfl⟩
theorem pushB : Statement .pushB := ⟨rfl, _, _, rfl, rfl⟩
theorem adi (d8 : Byte) : Statement (.adi d8) := ⟨rfl, _, _, rfl, rfl⟩
theorem rst0 : Statement .rst0 := ⟨rfl, _, _, rfl, rfl⟩
theorem rz : Statement .rz := ⟨rfl, _, _, rfl, rfl⟩
theorem ret : Statement .ret := ⟨rfl, _, _, rfl, rfl⟩
theorem jz (a16 : Word) : Statement (.jz a16) := ⟨rfl, _, _, rfl, rfl⟩
theorem unimplCB : Statement .unimplCB := ⟨rfl, _, _, rfl, rfl⟩
theorem cz (a16 : Word) : Statement (.cz a16) := ⟨rfl, _, _, rfl, rfl⟩
theorem call (a16 : Word) : Statement (.call a16) := ⟨rfl, _, _, rfl, rfl⟩
theorem aci (d8 : Byte) : Statement (.aci d8) := ⟨rfl, _, _, rfl, rfl⟩
theorem rst1 : Statement .rst1 := ⟨rfl, _, _, rfl, rfl⟩
theorem rnc : Statement .rnc := ⟨rfl, _, _, rfl, rfl⟩
theorem popD : Statement .popD := ⟨rfl, _, _, rfl, rfl⟩
theorem jnc (a16 : Word) : Statement (.jnc a16) := ⟨rfl, _, _, rfl, rfl⟩
theorem outPort : Statement .outPort := ⟨rfl, _, _, rfl, rfl⟩
theorem cnc (a16 : Word) : Statement (.cnc a16) := ⟨rfl, _, _, rfl, rfl⟩
theorem pushD : Statement .pushD := ⟨rfl, _, _, rfl, rfl⟩
theorem sui (d8 : Byte) : Statement (.sui d8) := ⟨rfl, _, _, rfl, rfl⟩
theorem rst2 : Statement .rst2 := ⟨rfl, _, _, rfl, rfl⟩
theorem rc : Statement .rc := ⟨rfl, _, _, rfl, rfl⟩
theorem unimplD9 : Statement .unimplD9 := ⟨rfl, _, _, rfl, rfl⟩
theorem jc (a16 : Word) : Statement (.jc a16) := ⟨rfl, _, _, rfl, rfl⟩
theorem inPort : Statement .inPort := ⟨rfl, _, _, rfl, rfl⟩
theorem cc (a16 : Word) : Statement (.cc a16) := ⟨rfl, _, _, rfl, rfl⟩
theorem unimplDD : Statement .unimplDD := ⟨rfl, _, _, rfl, rfl⟩
theorem sbi (d8 : Byte) : Statement (.sbi d8) := ⟨rfl, _, _, rfl, rfl⟩
theorem rst3 : Statement .rst3 := ⟨rfl, _, _, rfl, rfl⟩
theorem rpo : Statement .rpo := ⟨rfl, _, _, rfl, rfl⟩
theorem popH : Statement .popH := ⟨rfl, _, _, rfl, rfl⟩
theorem jpo (a16 : Word) : Statement (.jpo a16) := ⟨rfl, _, _, rfl, rfl⟩
theorem xthl : Statement .xthl := ⟨rfl, _, _, rfl, rfl⟩
theorem cpo (a16 : Word) : Statement (.cpo a16) := ⟨rfl, _, _, rfl, rfl⟩
theorem pushH : Statement .pushH := ⟨rfl, _, _, rfl, rfl⟩
theorem ani (d8 : Byte) : Statement (.ani d8) := ⟨rfl, _, _, rfl, rfl⟩
theorem rst4 : Statement .rst4 := ⟨rfl, _, _, rfl, rfl⟩
theorem rpe : Statement .rpe := ⟨rfl, _, _, rfl, rfl⟩
theorem pchl : Statement .pchl := ⟨rfl, _, _, rfl, rfl⟩
theorem jpe (a16 : Word) : Statement (.jpe a16) := ⟨rfl, _, _, rfl, rfl⟩
theorem xchg : Statement .xchg := ⟨rfl, _, _, rfl, rfl⟩
theorem cpe (a16 : Word) : Statement (.cpe a16) := ⟨rfl, _, _, rfl, rfl⟩
theorem unimplED : Statement .unimplED := ⟨rfl, _, _, rfl, rfl⟩
theorem xri (d8 : Byte) : Statement (.xri d8) := ⟨rfl, _, _, rfl, rfl⟩
theorem rst5 : Statement .rst5 := ⟨rfl, _, _, rfl, rfl⟩
theorem rp : Statement .rp := ⟨rfl, _, _, rfl, rfl⟩
theorem popPSW : Statement .popPSW := ⟨rfl, _, _, rfl, rfl⟩
theorem jp (a16 : Word) : Statement (.jp a16) := ⟨rfl, _, _, rfl, rfl⟩
theorem di : Statement .di := ⟨rfl, _, _, rfl, rfl⟩
theorem cp (a16 : Word) : Statement (.cp a16) := ⟨rfl, _, _, rfl, rfl⟩
theorem pushPSW : Statement .pushPSW := ⟨rfl, _, _, rfl, rfl⟩
theorem ori (d8 : Byte) : Statement (.ori d8) := ⟨rfl, _, _, rfl, rfl⟩
theorem rst6 : Statement .rst6 := ⟨rfl, _, _, rfl, rfl⟩
theorem rm : Statement .rm := ⟨rfl, _, _, rfl, rfl⟩
theorem sphl : Statement .sphl := ⟨rfl, _, _, rfl, rfl⟩
theorem jm (a16 : Word) : Statement (.jm a16) := ⟨rfl, _, _, rfl, rfl⟩
theorem ei : Statement .ei := ⟨rfl, _, _, rfl, rfl⟩
theorem cm (a16 : Word) : Statement (.cm a16) := ⟨rfl, _, _, rfl, rfl⟩
theorem unimplFD : Statement .unimplFD := ⟨rfl, _, _, rfl, rfl⟩
theorem cpi (d8 : Byte) : Statement (.cpi d8) := ⟨rfl, _, _, rfl, rfl⟩
theorem rst7 : Statement .rst7 := ⟨rfl, _, _, rfl, rfl⟩

end Sys2Proof.Laws.Encoded
end

