-- ==== Sys2Proof/Tests/Slice0.lean ====
section
/-! SUPPORT. Tests. Each is about the decoder or about one operation on a small state. The expected results are the spec's: the encoding
column of spec/opcode_table.json and the vectors of spec/95_test_vectors.md (named by their ids there), or the words of a rule. The
last part gives, for every obligation with a hypothesis, a state and operands that meet it. -/

open Sys2Proof Sys2Proof.Machine Sys2Proof.Certificates

namespace Sys2Proof.Tests

set_option Elab.async false

/-! Helpers -/

/-- The start state of the vectors (95_test_vectors.md section 2): registers 0, flags false, INTE 0, SP = 2400, PC = 0100. -/
def start : State := { State.reset with sp := 0x2400, pc := 0x0100 }

/-- The five flags in the order of the vectors: Z S P CY AC. -/
def fl (z s p cy ac : Bool) : Flags := { z := z, s := s, p := p, cy := cy, ac := ac }

/-- One step from `s` with `bytes` at PC goes to a next state of which `p` holds. -/
def stepGives (bytes : List Byte) (s : State) (p : State → Bool) : Bool :=
  match step (s.storeBytes s.pc bytes) with
  | .next t => p t
  | .fault _ => false
  | .refused _ => false

/-- One step from `s` with `bytes` at PC ends in this fault. -/
def stepFaults (bytes : List Byte) (s : State) (f : Fault) : Bool :=
  match step (s.storeBytes s.pc bytes) with
  | .next _ => false
  | .fault g => g == f
  | .refused _ => false

/-- One interrupt operation goes to a next state of which `p` holds. -/
def interruptGives (n : Nat) (s : State) (p : State → Bool) : Bool :=
  match interrupt n s with
  | .next t => p t
  | .fault _ => false
  | .refused _ => false

/-- The outcome is a next state. -/
def isNext : Out → Bool
  | .next _ => true
  | .fault _ => false
  | .refused _ => false

/-- The outcome is this fault. -/
def isFault (f : Fault) : Out → Bool
  | .next _ => false
  | .fault g => g == f
  | .refused _ => false

theorem exists_next {o : Out} (h : isNext o = true) : ∃ t, o = .next t := by
  cases o with
  | next t => exact ⟨t, rfl⟩
  | fault f => exact nomatch h
  | refused r => exact nomatch h

theorem forall_mem_of_all {α : Type} {l : List α} {p : α → Prop} [DecidablePred p] (h : l.all (fun a => decide (p a)) = true) :
    ∀ a ∈ l, p a := fun a ha => of_decide_eq_true (List.all_eq_true.mp h a ha)

/-! Well-formedness: one term for each check that the check refuses (R84, R83, R140, R141, R74, R220, R206, R80) -/

theorem test_no_mov_m_m : (Asm.mov .m .m).wellFormed = false := by decide
theorem test_no_lxi_psw : (Asm.lxi .psw 0x1234).wellFormed = false := by decide
theorem test_no_inx_psw : (Asm.inx .psw).wellFormed = false := by decide
theorem test_no_dcx_psw : (Asm.dcx .psw).wellFormed = false := by decide
theorem test_no_dad_psw : (Asm.dad .psw).wellFormed = false := by decide
theorem test_no_ldax_h : (Asm.ldax .hl).wellFormed = false := by decide
theorem test_no_stax_sp : (Asm.stax .sp).wellFormed = false := by decide
theorem test_no_push_sp : (Asm.push .sp).wellFormed = false := by decide
theorem test_no_pop_sp : (Asm.pop .sp).wellFormed = false := by decide
theorem test_no_rst_8 : (Asm.rst 8).wellFormed = false := by decide
theorem test_nop_is_implemented : (Asm.unimplemented 0x00).wellFormed = false := by decide

/-- And one of each that it accepts. -/
theorem test_well_formed_terms :
    ([.mov .m (.r .b), .lxi .sp 0x1234, .inx .hl, .dcx .sp, .dad .sp, .ldax .de, .stax .bc, .push .psw, .pop .psw, .rst 7,
      .unimplemented 0xFD] : List Asm).all Asm.wellFormed = true := by decide

/-! Decoding: every opcode of the table, written out bit by bit as its encoding column has it; operand bytes 34, then 12 -/

theorem test_decode_row_0 :
    decode [0b00000000] = .ok (.nop, []) ∧
    decode [0b00000001, 0x34, 0x12] = .ok (.lxiB 0x1234, []) ∧
    decode [0b00000010] = .ok (.staxB, []) ∧
    decode [0b00000011] = .ok (.inxB, []) ∧
    decode [0b00000100] = .ok (.inrB, []) ∧
    decode [0b00000101] = .ok (.dcrB, []) ∧
    decode [0b00000110, 0x34] = .ok (.mviB 0x34, []) ∧
    decode [0b00000111] = .ok (.rlc, []) ∧
    decode [0b00001000] = .ok (.nop08, []) ∧
    decode [0b00001001] = .ok (.dadB, []) ∧
    decode [0b00001010] = .ok (.ldaxB, []) ∧
    decode [0b00001011] = .ok (.dcxB, []) ∧
    decode [0b00001100] = .ok (.inrC, []) ∧
    decode [0b00001101] = .ok (.dcrC, []) ∧
    decode [0b00001110, 0x34] = .ok (.mviC 0x34, []) ∧
    decode [0b00001111] = .ok (.rrc, []) :=
  ⟨rfl, rfl, rfl, rfl, rfl, rfl, rfl, rfl, rfl, rfl, rfl, rfl, rfl, rfl, rfl, rfl⟩

theorem test_decode_row_1 :
    decode [0b00010000] = .ok (.nop10, []) ∧
    decode [0b00010001, 0x34, 0x12] = .ok (.lxiD 0x1234, []) ∧
    decode [0b00010010] = .ok (.staxD, []) ∧
    decode [0b00010011] = .ok (.inxD, []) ∧
    decode [0b00010100] = .ok (.inrD, []) ∧
    decode [0b00010101] = .ok (.dcrD, []) ∧
    decode [0b00010110, 0x34] = .ok (.mviD 0x34, []) ∧
    decode [0b00010111] = .ok (.ral, []) ∧
    decode [0b00011000] = .ok (.nop18, []) ∧
    decode [0b00011001] = .ok (.dadD, []) ∧
    decode [0b00011010] = .ok (.ldaxD, []) ∧
    decode [0b00011011] = .ok (.dcxD, []) ∧
    decode [0b00011100] = .ok (.inrE, []) ∧
    decode [0b00011101] = .ok (.dcrE, []) ∧
    decode [0b00011110, 0x34] = .ok (.mviE 0x34, []) ∧
    decode [0b00011111] = .ok (.rar, []) :=
  ⟨rfl, rfl, rfl, rfl, rfl, rfl, rfl, rfl, rfl, rfl, rfl, rfl, rfl, rfl, rfl, rfl⟩

theorem test_decode_row_2 :
    decode [0b00100000] = .ok (.nop20, []) ∧
    decode [0b00100001, 0x34, 0x12] = .ok (.lxiH 0x1234, []) ∧
    decode [0b00100010, 0x34, 0x12] = .ok (.shld 0x1234, []) ∧
    decode [0b00100011] = .ok (.inxH, []) ∧
    decode [0b00100100] = .ok (.inrH, []) ∧
    decode [0b00100101] = .ok (.dcrH, []) ∧
    decode [0b00100110, 0x34] = .ok (.mviH 0x34, []) ∧
    decode [0b00100111] = .ok (.daa, []) ∧
    decode [0b00101000] = .ok (.nop28, []) ∧
    decode [0b00101001] = .ok (.dadH, []) ∧
    decode [0b00101010, 0x34, 0x12] = .ok (.lhld 0x1234, []) ∧
    decode [0b00101011] = .ok (.dcxH, []) ∧
    decode [0b00101100] = .ok (.inrL, []) ∧
    decode [0b00101101] = .ok (.dcrL, []) ∧
    decode [0b00101110, 0x34] = .ok (.mviL 0x34, []) ∧
    decode [0b00101111] = .ok (.cma, []) :=
  ⟨rfl, rfl, rfl, rfl, rfl, rfl, rfl, rfl, rfl, rfl, rfl, rfl, rfl, rfl, rfl, rfl⟩

theorem test_decode_row_3 :
    decode [0b00110000] = .ok (.nop30, []) ∧
    decode [0b00110001, 0x34, 0x12] = .ok (.lxiSP 0x1234, []) ∧
    decode [0b00110010, 0x34, 0x12] = .ok (.sta 0x1234, []) ∧
    decode [0b00110011] = .ok (.inxSP, []) ∧
    decode [0b00110100] = .ok (.inrM, []) ∧
    decode [0b00110101] = .ok (.dcrM, []) ∧
    decode [0b00110110, 0x34] = .ok (.mviM 0x34, []) ∧
    decode [0b00110111] = .ok (.stc, []) ∧
    decode [0b00111000] = .ok (.nop38, []) ∧
    decode [0b00111001] = .ok (.dadSP, []) ∧
    decode [0b00111010, 0x34, 0x12] = .ok (.lda 0x1234, []) ∧
    decode [0b00111011] = .ok (.dcxSP, []) ∧
    decode [0b00111100] = .ok (.inrA, []) ∧
    decode [0b00111101] = .ok (.dcrA, []) ∧
    decode [0b00111110, 0x34] = .ok (.mviA 0x34, []) ∧
    decode [0b00111111] = .ok (.cmc, []) :=
  ⟨rfl, rfl, rfl, rfl, rfl, rfl, rfl, rfl, rfl, rfl, rfl, rfl, rfl, rfl, rfl, rfl⟩

theorem test_decode_row_4 :
    decode [0b01000000] = .ok (.movBB, []) ∧
    decode [0b01000001] = .ok (.movBC, []) ∧
    decode [0b01000010] = .ok (.movBD, []) ∧
    decode [0b01000011] = .ok (.movBE, []) ∧
    decode [0b01000100] = .ok (.movBH, []) ∧
    decode [0b01000101] = .ok (.movBL, []) ∧
    decode [0b01000110] = .ok (.movBM, []) ∧
    decode [0b01000111] = .ok (.movBA, []) ∧
    decode [0b01001000] = .ok (.movCB, []) ∧
    decode [0b01001001] = .ok (.movCC, []) ∧
    decode [0b01001010] = .ok (.movCD, []) ∧
    decode [0b01001011] = .ok (.movCE, []) ∧
    decode [0b01001100] = .ok (.movCH, []) ∧
    decode [0b01001101] = .ok (.movCL, []) ∧
    decode [0b01001110] = .ok (.movCM, []) ∧
    decode [0b01001111] = .ok (.movCA, []) :=
  ⟨rfl, rfl, rfl, rfl, rfl, rfl, rfl, rfl, rfl, rfl, rfl, rfl, rfl, rfl, rfl, rfl⟩

theorem test_decode_row_5 :
    decode [0b01010000] = .ok (.movDB, []) ∧
    decode [0b01010001] = .ok (.movDC, []) ∧
    decode [0b01010010] = .ok (.movDD, []) ∧
    decode [0b01010011] = .ok (.movDE, []) ∧
    decode [0b01010100] = .ok (.movDH, []) ∧
    decode [0b01010101] = .ok (.movDL, []) ∧
    decode [0b01010110] = .ok (.movDM, []) ∧
    decode [0b01010111] = .ok (.movDA, []) ∧
    decode [0b01011000] = .ok (.movEB, []) ∧
    decode [0b01011001] = .ok (.movEC, []) ∧
    decode [0b01011010] = .ok (.movED, []) ∧
    decode [0b01011011] = .ok (.movEE, []) ∧
    decode [0b01011100] = .ok (.movEH, []) ∧
    decode [0b01011101] = .ok (.movEL, []) ∧
    decode [0b01011110] = .ok (.movEM, []) ∧
    decode [0b01011111] = .ok (.movEA, []) :=
  ⟨rfl, rfl, rfl, rfl, rfl, rfl, rfl, rfl, rfl, rfl, rfl, rfl, rfl, rfl, rfl, rfl⟩

theorem test_decode_row_6 :
    decode [0b01100000] = .ok (.movHB, []) ∧
    decode [0b01100001] = .ok (.movHC, []) ∧
    decode [0b01100010] = .ok (.movHD, []) ∧
    decode [0b01100011] = .ok (.movHE, []) ∧
    decode [0b01100100] = .ok (.movHH, []) ∧
    decode [0b01100101] = .ok (.movHL, []) ∧
    decode [0b01100110] = .ok (.movHM, []) ∧
    decode [0b01100111] = .ok (.movHA, []) ∧
    decode [0b01101000] = .ok (.movLB, []) ∧
    decode [0b01101001] = .ok (.movLC, []) ∧
    decode [0b01101010] = .ok (.movLD, []) ∧
    decode [0b01101011] = .ok (.movLE, []) ∧
    decode [0b01101100] = .ok (.movLH, []) ∧
    decode [0b01101101] = .ok (.movLL, []) ∧
    decode [0b01101110] = .ok (.movLM, []) ∧
    decode [0b01101111] = .ok (.movLA, []) :=
  ⟨rfl, rfl, rfl, rfl, rfl, rfl, rfl, rfl, rfl, rfl, rfl, rfl, rfl, rfl, rfl, rfl⟩

theorem test_decode_row_7 :
    decode [0b01110000] = .ok (.movMB, []) ∧
    decode [0b01110001] = .ok (.movMC, []) ∧
    decode [0b01110010] = .ok (.movMD, []) ∧
    decode [0b01110011] = .ok (.movME, []) ∧
    decode [0b01110100] = .ok (.movMH, []) ∧
    decode [0b01110101] = .ok (.movML, []) ∧
    decode [0b01110110] = .ok (.hlt, []) ∧
    decode [0b01110111] = .ok (.movMA, []) ∧
    decode [0b01111000] = .ok (.movAB, []) ∧
    decode [0b01111001] = .ok (.movAC, []) ∧
    decode [0b01111010] = .ok (.movAD, []) ∧
    decode [0b01111011] = .ok (.movAE, []) ∧
    decode [0b01111100] = .ok (.movAH, []) ∧
    decode [0b01111101] = .ok (.movAL, []) ∧
    decode [0b01111110] = .ok (.movAM, []) ∧
    decode [0b01111111] = .ok (.movAA, []) :=
  ⟨rfl, rfl, rfl, rfl, rfl, rfl, rfl, rfl, rfl, rfl, rfl, rfl, rfl, rfl, rfl, rfl⟩

theorem test_decode_row_8 :
    decode [0b10000000] = .ok (.addB, []) ∧
    decode [0b10000001] = .ok (.addC, []) ∧
    decode [0b10000010] = .ok (.addD, []) ∧
    decode [0b10000011] = .ok (.addE, []) ∧
    decode [0b10000100] = .ok (.addH, []) ∧
    decode [0b10000101] = .ok (.addL, []) ∧
    decode [0b10000110] = .ok (.addM, []) ∧
    decode [0b10000111] = .ok (.addA, []) ∧
    decode [0b10001000] = .ok (.adcB, []) ∧
    decode [0b10001001] = .ok (.adcC, []) ∧
    decode [0b10001010] = .ok (.adcD, []) ∧
    decode [0b10001011] = .ok (.adcE, []) ∧
    decode [0b10001100] = .ok (.adcH, []) ∧
    decode [0b10001101] = .ok (.adcL, []) ∧
    decode [0b10001110] = .ok (.adcM, []) ∧
    decode [0b10001111] = .ok (.adcA, []) :=
  ⟨rfl, rfl, rfl, rfl, rfl, rfl, rfl, rfl, rfl, rfl, rfl, rfl, rfl, rfl, rfl, rfl⟩

theorem test_decode_row_9 :
    decode [0b10010000] = .ok (.subB, []) ∧
    decode [0b10010001] = .ok (.subC, []) ∧
    decode [0b10010010] = .ok (.subD, []) ∧
    decode [0b10010011] = .ok (.subE, []) ∧
    decode [0b10010100] = .ok (.subH, []) ∧
    decode [0b10010101] = .ok (.subL, []) ∧
    decode [0b10010110] = .ok (.subM, []) ∧
    decode [0b10010111] = .ok (.subA, []) ∧
    decode [0b10011000] = .ok (.sbbB, []) ∧
    decode [0b10011001] = .ok (.sbbC, []) ∧
    decode [0b10011010] = .ok (.sbbD, []) ∧
    decode [0b10011011] = .ok (.sbbE, []) ∧
    decode [0b10011100] = .ok (.sbbH, []) ∧
    decode [0b10011101] = .ok (.sbbL, []) ∧
    decode [0b10011110] = .ok (.sbbM, []) ∧
    decode [0b10011111] = .ok (.sbbA, []) :=
  ⟨rfl, rfl, rfl, rfl, rfl, rfl, rfl, rfl, rfl, rfl, rfl, rfl, rfl, rfl, rfl, rfl⟩

theorem test_decode_row_A :
    decode [0b10100000] = .ok (.anaB, []) ∧
    decode [0b10100001] = .ok (.anaC, []) ∧
    decode [0b10100010] = .ok (.anaD, []) ∧
    decode [0b10100011] = .ok (.anaE, []) ∧
    decode [0b10100100] = .ok (.anaH, []) ∧
    decode [0b10100101] = .ok (.anaL, []) ∧
    decode [0b10100110] = .ok (.anaM, []) ∧
    decode [0b10100111] = .ok (.anaA, []) ∧
    decode [0b10101000] = .ok (.xraB, []) ∧
    decode [0b10101001] = .ok (.xraC, []) ∧
    decode [0b10101010] = .ok (.xraD, []) ∧
    decode [0b10101011] = .ok (.xraE, []) ∧
    decode [0b10101100] = .ok (.xraH, []) ∧
    decode [0b10101101] = .ok (.xraL, []) ∧
    decode [0b10101110] = .ok (.xraM, []) ∧
    decode [0b10101111] = .ok (.xraA, []) :=
  ⟨rfl, rfl, rfl, rfl, rfl, rfl, rfl, rfl, rfl, rfl, rfl, rfl, rfl, rfl, rfl, rfl⟩

theorem test_decode_row_B :
    decode [0b10110000] = .ok (.oraB, []) ∧
    decode [0b10110001] = .ok (.oraC, []) ∧
    decode [0b10110010] = .ok (.oraD, []) ∧
    decode [0b10110011] = .ok (.oraE, []) ∧
    decode [0b10110100] = .ok (.oraH, []) ∧
    decode [0b10110101] = .ok (.oraL, []) ∧
    decode [0b10110110] = .ok (.oraM, []) ∧
    decode [0b10110111] = .ok (.oraA, []) ∧
    decode [0b10111000] = .ok (.cmpB, []) ∧
    decode [0b10111001] = .ok (.cmpC, []) ∧
    decode [0b10111010] = .ok (.cmpD, []) ∧
    decode [0b10111011] = .ok (.cmpE, []) ∧
    decode [0b10111100] = .ok (.cmpH, []) ∧
    decode [0b10111101] = .ok (.cmpL, []) ∧
    decode [0b10111110] = .ok (.cmpM, []) ∧
    decode [0b10111111] = .ok (.cmpA, []) :=
  ⟨rfl, rfl, rfl, rfl, rfl, rfl, rfl, rfl, rfl, rfl, rfl, rfl, rfl, rfl, rfl, rfl⟩

theorem test_decode_row_C :
    decode [0b11000000] = .ok (.rnz, []) ∧
    decode [0b11000001] = .ok (.popB, []) ∧
    decode [0b11000010, 0x34, 0x12] = .ok (.jnz 0x1234, []) ∧
    decode [0b11000011, 0x34, 0x12] = .ok (.jmp 0x1234, []) ∧
    decode [0b11000100, 0x34, 0x12] = .ok (.cnz 0x1234, []) ∧
    decode [0b11000101] = .ok (.pushB, []) ∧
    decode [0b11000110, 0x34] = .ok (.adi 0x34, []) ∧
    decode [0b11000111] = .ok (.rst0, []) ∧
    decode [0b11001000] = .ok (.rz, []) ∧
    decode [0b11001001] = .ok (.ret, []) ∧
    decode [0b11001010, 0x34, 0x12] = .ok (.jz 0x1234, []) ∧
    decode [0b11001011] = .ok (.unimplCB, []) ∧
    decode [0b11001100, 0x34, 0x12] = .ok (.cz 0x1234, []) ∧
    decode [0b11001101, 0x34, 0x12] = .ok (.call 0x1234, []) ∧
    decode [0b11001110, 0x34] = .ok (.aci 0x34, []) ∧
    decode [0b11001111] = .ok (.rst1, []) :=
  ⟨rfl, rfl, rfl, rfl, rfl, rfl, rfl, rfl, rfl, rfl, rfl, rfl, rfl, rfl, rfl, rfl⟩

theorem test_decode_row_D :
    decode [0b11010000] = .ok (.rnc, []) ∧
    decode [0b11010001] = .ok (.popD, []) ∧
    decode [0b11010010, 0x34, 0x12] = .ok (.jnc 0x1234, []) ∧
    decode [0b11010011] = .ok (.outPort, []) ∧
    decode [0b11010100, 0x34, 0x12] = .ok (.cnc 0x1234, []) ∧
    decode [0b11010101] = .ok (.pushD, []) ∧
    decode [0b11010110, 0x34] = .ok (.sui 0x34, []) ∧
    decode [0b11010111] = .ok (.rst2, []) ∧
    decode [0b11011000] = .ok (.rc, []) ∧
    decode [0b11011001] = .ok (.unimplD9, []) ∧
    decode [0b11011010, 0x34, 0x12] = .ok (.jc 0x1234, []) ∧
    decode [0b11011011] = .ok (.inPort, []) ∧
    decode [0b11011100, 0x34, 0x12] = .ok (.cc 0x1234, []) ∧
    decode [0b11011101] = .ok (.unimplDD, []) ∧
    decode [0b11011110, 0x34] = .ok (.sbi 0x34, []) ∧
    decode [0b11011111] = .ok (.rst3, []) :=
  ⟨rfl, rfl, rfl, rfl, rfl, rfl, rfl, rfl, rfl, rfl, rfl, rfl, rfl, rfl, rfl, rfl⟩

theorem test_decode_row_E :
    decode [0b11100000] = .ok (.rpo, []) ∧
    decode [0b11100001] = .ok (.popH, []) ∧
    decode [0b11100010, 0x34, 0x12] = .ok (.jpo 0x1234, []) ∧
    decode [0b11100011] = .ok (.xthl, []) ∧
    decode [0b11100100, 0x34, 0x12] = .ok (.cpo 0x1234, []) ∧
    decode [0b11100101] = .ok (.pushH, []) ∧
    decode [0b11100110, 0x34] = .ok (.ani 0x34, []) ∧
    decode [0b11100111] = .ok (.rst4, []) ∧
    decode [0b11101000] = .ok (.rpe, []) ∧
    decode [0b11101001] = .ok (.pchl, []) ∧
    decode [0b11101010, 0x34, 0x12] = .ok (.jpe 0x1234, []) ∧
    decode [0b11101011] = .ok (.xchg, []) ∧
    decode [0b11101100, 0x34, 0x12] = .ok (.cpe 0x1234, []) ∧
    decode [0b11101101] = .ok (.unimplED, []) ∧
    decode [0b11101110, 0x34] = .ok (.xri 0x34, []) ∧
    decode [0b11101111] = .ok (.rst5, []) :=
  ⟨rfl, rfl, rfl, rfl, rfl, rfl, rfl, rfl, rfl, rfl, rfl, rfl, rfl, rfl, rfl, rfl⟩

theorem test_decode_row_F :
    decode [0b11110000] = .ok (.rp, []) ∧
    decode [0b11110001] = .ok (.popPSW, []) ∧
    decode [0b11110010, 0x34, 0x12] = .ok (.jp 0x1234, []) ∧
    decode [0b11110011] = .ok (.di, []) ∧
    decode [0b11110100, 0x34, 0x12] = .ok (.cp 0x1234, []) ∧
    decode [0b11110101] = .ok (.pushPSW, []) ∧
    decode [0b11110110, 0x34] = .ok (.ori 0x34, []) ∧
    decode [0b11110111] = .ok (.rst6, []) ∧
    decode [0b11111000] = .ok (.rm, []) ∧
    decode [0b11111001] = .ok (.sphl, []) ∧
    decode [0b11111010, 0x34, 0x12] = .ok (.jm 0x1234, []) ∧
    decode [0b11111011] = .ok (.ei, []) ∧
    decode [0b11111100, 0x34, 0x12] = .ok (.cm 0x1234, []) ∧
    decode [0b11111101] = .ok (.unimplFD, []) ∧
    decode [0b11111110, 0x34] = .ok (.cpi 0x34, []) ∧
    decode [0b11111111] = .ok (.rst7, []) :=
  ⟨rfl, rfl, rfl, rfl, rfl, rfl, rfl, rfl, rfl, rfl, rfl, rfl, rfl, rfl, rfl, rfl⟩

theorem test_decode_leaves_the_rest : decode [0b00111110, 0x05, 0b00000110, 0x10] = .ok (.mviA 0x05, [0b00000110, 0x10]) := rfl
theorem test_decode_nothing : decode [] = .error .noBytes := rfl
theorem test_decode_missing_operand : decode [0b11000011, 0x34] = .error (.missingOperand 0xC3) := rfl

/-- The table numbers the first byte's bits 7 to 0, the second's 15 to 8, the third's 23 to 16. -/
theorem test_table_word : decodeTableWord 24 0x1234C3 = some (.jmp 0x1234) := by decide +kernel
theorem test_table_word_short : decodeTableWord 8 0xC3 = some (.jmp 0) := by decide +kernel
theorem test_with_fetch_word : fetch (State.reset.withFetchWord 24 0x1234C3) = .jmp 0x1234 := by decide +kernel
theorem test_with_fetch_word_short : fetch (State.reset.withFetchWord 8 0b01000001) = .movBC := by decide +kernel

/-! One step each: the vectors of 95_test_vectors.md section 2 -/

/-- M1: MOV B,C (R130). -/
theorem test_mov_b_c :
    stepGives [0x41] { start with c := 0x5A, flags := fl true false false true false }
      (fun t => t.b == 0x5A && t.pc == 0x0101 && t.flags == fl true false false true false) = true := by decide +kernel
/-- M4: MOV A,M (R131). -/
theorem test_mov_a_m :
    stepGives [0x7E] (State.memWrite { start with h := 0x20, l := 0x00 } 0x2000 0x77)
      (fun t => t.a == 0x77 && t.pc == 0x0101 && t.flags == fl false false false false false) = true := by decide +kernel
/-- M5: MOV H,M (R131). -/
theorem test_mov_h_m_old_address :
    stepGives [0x66] (State.memWrite { start with h := 0x20, l := 0x00 } 0x2000 0x77)
      (fun t => t.h == 0x77 && t.pc == 0x0101 && t.flags == fl false false false false false) = true := by decide +kernel
/-- M7: MOV M,H (R132). -/
theorem test_mov_m_h :
    stepGives [0x74] { start with h := 0x20, l := 0x01 }
      (fun t => t.pc == 0x0101 && t.memRead 0x2001 == 0x20 && t.flags == fl false false false false false) = true := by decide +kernel
/-- M8: MOV M,A (R132). -/
theorem test_mov_m_a_top :
    stepGives [0x77] { start with a := 0xAB, h := 0xFF, l := 0xFF }
      (fun t => t.pc == 0x0101 && t.memRead 0xFFFF == 0xAB && t.flags == fl false false false false false) = true := by decide +kernel
/-- M9: MVI A,05 (R133). -/
theorem test_mvi_a :
    stepGives [0x3E, 0x05] start
      (fun t => t.a == 0x05 && t.pc == 0x0102 && t.flags == fl false false false false false) = true := by decide +kernel
/-- M11: MVI L,FF (R133). -/
theorem test_mvi_l_keeps_flags :
    stepGives [0x2E, 0xFF] { start with flags := fl true true true true true }
      (fun t => t.l == 0xFF && t.pc == 0x0102 && t.flags == fl true true true true true) = true := by decide +kernel
/-- M12: MVI M,42 (R134). -/
theorem test_mvi_m :
    stepGives [0x36, 0x42] { start with h := 0x20, l := 0x02 }
      (fun t => t.pc == 0x0102 && t.memRead 0x2002 == 0x42 && t.flags == fl false false false false false) = true := by decide +kernel
/-- M13: LXI B,1234 (R135). -/
theorem test_lxi_b :
    stepGives [0x01, 0x34, 0x12] start
      (fun t => t.b == 0x12 && t.c == 0x34 && t.pc == 0x0103 && t.flags == fl false false false false false) = true := by decide +kernel
/-- M14: LXI D,ABCD (R135). -/
theorem test_lxi_d :
    stepGives [0x11, 0xCD, 0xAB] start
      (fun t => t.d == 0xAB && t.e == 0xCD && t.pc == 0x0103 && t.flags == fl false false false false false) = true := by decide +kernel
/-- M15: LXI H,2000 (R135). -/
theorem test_lxi_h :
    stepGives [0x21, 0x00, 0x20] start
      (fun t => t.h == 0x20 && t.pc == 0x0103 && t.flags == fl false false false false false) = true := by decide +kernel
/-- M16: LXI SP,2400 (R135). -/
theorem test_lxi_sp :
    stepGives [0x31, 0x00, 0x24] { start with sp := 0x0000 }
      (fun t => t.sp == 0x2400 && t.pc == 0x0103 && t.flags == fl false false false false false) = true := by decide +kernel
/-- M17: LDA 2000 (R136). -/
theorem test_lda :
    stepGives [0x3A, 0x00, 0x20] (State.memWrite start 0x2000 0x99)
      (fun t => t.a == 0x99 && t.pc == 0x0103 && t.flags == fl false false false false false) = true := by decide +kernel
/-- M18: STA 2001 (R137). -/
theorem test_sta :
    stepGives [0x32, 0x01, 0x20] { start with a := 0x5C }
      (fun t => t.pc == 0x0103 && t.memRead 0x2001 == 0x5C && t.flags == fl false false false false false) = true := by decide +kernel
/-- M19: LHLD 2000 (R138). -/
theorem test_lhld :
    stepGives [0x2A, 0x00, 0x20] ((State.memWrite start 0x2000 0x34).memWrite 0x2001 0x12)
      (fun t => t.h == 0x12 && t.l == 0x34 && t.pc == 0x0103 && t.flags == fl false false false false false) = true := by decide +kernel
/-- M20: LHLD FFFF (R138). -/
theorem test_lhld_wraps :
    stepGives [0x2A, 0xFF, 0xFF] ((State.memWrite start 0x0000 0x12).memWrite 0xFFFF 0x34)
      (fun t => t.h == 0x12 && t.l == 0x34 && t.pc == 0x0103 && t.flags == fl false false false false false) = true := by decide +kernel
/-- M21: SHLD 2000 (R139). -/
theorem test_shld :
    stepGives [0x22, 0x00, 0x20] { start with h := 0xBE, l := 0xEF }
      (fun t => t.pc == 0x0103 && t.memRead 0x2000 == 0xEF && t.memRead 0x2001 == 0xBE && t.flags == fl false false false false false) = true := by decide +kernel
/-- M22: SHLD FFFF (R139). -/
theorem test_shld_wraps :
    stepGives [0x22, 0xFF, 0xFF] { start with h := 0xBE, l := 0xEF }
      (fun t => t.pc == 0x0103 && t.memRead 0x0000 == 0xBE && t.memRead 0xFFFF == 0xEF && t.flags == fl false false false false false) = true := by decide +kernel
/-- M23: LDAX B (R140). -/
theorem test_ldax_b :
    stepGives [0x0A] (State.memWrite { start with b := 0x20, c := 0x05 } 0x2005 0x66)
      (fun t => t.a == 0x66 && t.pc == 0x0101 && t.flags == fl false false false false false) = true := by decide +kernel
/-- M24: LDAX D (R140). -/
theorem test_ldax_d :
    stepGives [0x1A] (State.memWrite { start with d := 0x20, e := 0x06 } 0x2006 0x67)
      (fun t => t.a == 0x67 && t.pc == 0x0101 && t.flags == fl false false false false false) = true := by decide +kernel
/-- M25: STAX B (R141). -/
theorem test_stax_b :
    stepGives [0x02] { start with a := 0x11, b := 0x20, c := 0x07 }
      (fun t => t.pc == 0x0101 && t.memRead 0x2007 == 0x11 && t.flags == fl false false false false false) = true := by decide +kernel
/-- M26: STAX D (R141). -/
theorem test_stax_d :
    stepGives [0x12] { start with a := 0x22, d := 0x20, e := 0x08 }
      (fun t => t.pc == 0x0101 && t.memRead 0x2008 == 0x22 && t.flags == fl false false false false false) = true := by decide +kernel
/-- M27: XCHG (R142). -/
theorem test_xchg :
    stepGives [0xEB] { start with d := 0x12, e := 0x34, h := 0x56, l := 0x78, flags := fl true true true true true }
      (fun t => t.d == 0x56 && t.e == 0x78 && t.h == 0x12 && t.l == 0x34 && t.pc == 0x0101 && t.flags == fl true true true true true) = true := by decide +kernel
/-- A2: ADD B (R150). -/
theorem test_add_carry_out :
    stepGives [0x80] { start with a := 0xFF, b := 0x01 }
      (fun t => t.a == 0x00 && t.pc == 0x0101 && t.flags == fl true false true true false) = true := by decide +kernel
/-- A5: ADD D (R150). -/
theorem test_add_keeps_ac :
    stepGives [0x82] { start with a := 0x00, d := 0x00, flags := fl false true false true true }
      (fun t => t.pc == 0x0101 && t.flags == fl true false true false true) = true := by decide +kernel
/-- A6: ADD M (R151). -/
theorem test_add_m :
    stepGives [0x86] (State.memWrite { start with a := 0x0F, h := 0x20, l := 0x00 } 0x2000 0xF1)
      (fun t => t.a == 0x00 && t.pc == 0x0101 && t.flags == fl true false true true false) = true := by decide +kernel
/-- A7: ADI 22 (R152). -/
theorem test_adi_ignores_carry :
    stepGives [0xC6, 0x22] { start with a := 0x11, flags := fl false false false true false }
      (fun t => t.a == 0x33 && t.pc == 0x0102 && t.flags == fl false false true false false) = true := by decide +kernel
/-- A9: ADC B (R153). -/
theorem test_adc_b :
    stepGives [0x88] { start with a := 0xFF, b := 0xFF, flags := fl false false false true false }
      (fun t => t.pc == 0x0101 && t.flags == fl false true true true false) = true := by decide +kernel
/-- A12: ADC M (R154). -/
theorem test_adc_m :
    stepGives [0x8E] (State.memWrite { start with a := 0x01, h := 0x20, l := 0x00, flags := fl false false false true false } 0x2000 0x01)
      (fun t => t.a == 0x03 && t.pc == 0x0101 && t.flags == fl false false true false false) = true := by decide +kernel
/-- A13: ACI 00 (R155). -/
theorem test_aci :
    stepGives [0xCE, 0x00] { start with a := 0x7F, flags := fl false false false true false }
      (fun t => t.a == 0x80 && t.pc == 0x0102 && t.flags == fl false true false false false) = true := by decide +kernel
/-- A14: SUB B (R156). -/
theorem test_sub_borrow :
    stepGives [0x90] { start with a := 0x05, b := 0x06 }
      (fun t => t.a == 0xFF && t.pc == 0x0101 && t.flags == fl false true true true false) = true := by decide +kernel
/-- A16: SUB A (R156). -/
theorem test_sub_a :
    stepGives [0x97] { start with a := 0x3C, flags := fl false true false true false }
      (fun t => t.a == 0x00 && t.pc == 0x0101 && t.flags == fl true false true false false) = true := by decide +kernel
/-- A18: SUB M (R157). -/
theorem test_sub_m :
    stepGives [0x96] (State.memWrite { start with a := 0x80, h := 0x20, l := 0x00 } 0x2000 0x01)
      (fun t => t.a == 0x7F && t.pc == 0x0101 && t.flags == fl false false false false false) = true := by decide +kernel
/-- A19: SUI 01 (R158). -/
theorem test_sui :
    stepGives [0xD6, 0x01] { start with a := 0x00 }
      (fun t => t.a == 0xFF && t.pc == 0x0102 && t.flags == fl false true true true false) = true := by decide +kernel
/-- A20: SBB B (R159). -/
theorem test_sbb_borrow_in :
    stepGives [0x98] { start with a := 0x00, b := 0xFF, flags := fl false false false true false }
      (fun t => t.pc == 0x0101 && t.flags == fl true false true true false) = true := by decide +kernel
/-- A23: SBB A (R159). -/
theorem test_sbb_a :
    stepGives [0x9F] { start with a := 0x42, flags := fl false false false true false }
      (fun t => t.a == 0xFF && t.pc == 0x0101 && t.flags == fl false true true true false) = true := by decide +kernel
/-- A25: SBB M (R160). -/
theorem test_sbb_m :
    stepGives [0x9E] (State.memWrite { start with a := 0x10, h := 0x20, l := 0x00, flags := fl false false false true false } 0x2000 0x0F)
      (fun t => t.a == 0x00 && t.pc == 0x0101 && t.flags == fl true false true false false) = true := by decide +kernel
/-- A26: SBI FF (R161). -/
theorem test_sbi :
    stepGives [0xDE, 0xFF] { start with a := 0xFF, flags := fl false false false true false }
      (fun t => t.pc == 0x0102 && t.flags == fl false true true true false) = true := by decide +kernel
/-- A27: CMP B (R162). -/
theorem test_cmp_less :
    stepGives [0xB8] { start with a := 0x05, b := 0x06 }
      (fun t => t.pc == 0x0101 && t.flags == fl false true true true false) = true := by decide +kernel
/-- A29: CMP B (R162). -/
theorem test_cmp_equal :
    stepGives [0xB8] { start with a := 0x42, b := 0x42 }
      (fun t => t.pc == 0x0101 && t.flags == fl true false true false false) = true := by decide +kernel
/-- A31: CMP M (R163). -/
theorem test_cmp_m :
    stepGives [0xBE] (State.memWrite { start with a := 0x80, h := 0x20, l := 0x00 } 0x2000 0x01)
      (fun t => t.pc == 0x0101 && t.flags == fl false false false false false) = true := by decide +kernel
/-- A32: CPI 80 (R164). -/
theorem test_cpi :
    stepGives [0xFE, 0x80] { start with a := 0x7F }
      (fun t => t.pc == 0x0102 && t.flags == fl false true true true false) = true := by decide +kernel
/-- A34: INR B (R165). -/
theorem test_inr_keeps_carry :
    stepGives [0x04] { start with b := 0xFF, flags := fl false false false true false }
      (fun t => t.b == 0x00 && t.pc == 0x0101 && t.flags == fl true false true true false) = true := by decide +kernel
/-- A36: INR A (R165). -/
theorem test_inr_keeps_ac :
    stepGives [0x3C] { start with a := 0x7F, flags := fl false false false false true }
      (fun t => t.a == 0x80 && t.pc == 0x0101 && t.flags == fl false true false false true) = true := by decide +kernel
/-- A38: INR M (R166). -/
theorem test_inr_m :
    stepGives [0x34] (State.memWrite { start with h := 0x20, l := 0x00, flags := fl false false false true false } 0x2000 0xFF)
      (fun t => t.pc == 0x0101 && t.memRead 0x2000 == 0x00 && t.flags == fl true false true true false) = true := by decide +kernel
/-- A39: DCR B (R167). -/
theorem test_dcr_keeps_carry :
    stepGives [0x05] { start with b := 0x00, flags := fl false false false true false }
      (fun t => t.b == 0xFF && t.pc == 0x0101 && t.flags == fl false true true true false) = true := by decide +kernel
/-- A42: DCR L (R167). -/
theorem test_dcr_l :
    stepGives [0x2D] { start with l := 0x80 }
      (fun t => t.l == 0x7F && t.pc == 0x0101 && t.flags == fl false false false false false) = true := by decide +kernel
/-- A43: DCR M (R168). -/
theorem test_dcr_m :
    stepGives [0x35] (State.memWrite { start with h := 0x20, l := 0x00, flags := fl false false false true true } 0x2000 0x01)
      (fun t => t.pc == 0x0101 && t.memRead 0x2000 == 0x00 && t.flags == fl true false true true true) = true := by decide +kernel
/-- A44: INX B (R169). -/
theorem test_inx_b_wraps :
    stepGives [0x03] { start with b := 0xFF, c := 0xFF, flags := fl false true false false false }
      (fun t => t.b == 0x00 && t.c == 0x00 && t.pc == 0x0101 && t.flags == fl false true false false false) = true := by decide +kernel
/-- A45: INX D (R169). -/
theorem test_inx_d :
    stepGives [0x13] { start with d := 0x00, e := 0xFF }
      (fun t => t.d == 0x01 && t.e == 0x00 && t.pc == 0x0101 && t.flags == fl false false false false false) = true := by decide +kernel
/-- A46: INX H (R169). -/
theorem test_inx_h :
    stepGives [0x23] { start with h := 0x12, l := 0x34 }
      (fun t => t.l == 0x35 && t.pc == 0x0101 && t.flags == fl false false false false false) = true := by decide +kernel
/-- A47: INX SP (R169). -/
theorem test_inx_sp_wraps :
    stepGives [0x33] { start with sp := 0xFFFF }
      (fun t => t.sp == 0x0000 && t.pc == 0x0101 && t.flags == fl false false false false false) = true := by decide +kernel
/-- A48: DCX B (R170). -/
theorem test_dcx_b_wraps :
    stepGives [0x0B] { start with b := 0x00, c := 0x00, flags := fl true false false false false }
      (fun t => t.b == 0xFF && t.c == 0xFF && t.pc == 0x0101 && t.flags == fl true false false false false) = true := by decide +kernel
/-- A49: DCX D (R170). -/
theorem test_dcx_d :
    stepGives [0x1B] { start with d := 0x01, e := 0x00 }
      (fun t => t.d == 0x00 && t.e == 0xFF && t.pc == 0x0101 && t.flags == fl false false false false false) = true := by decide +kernel
/-- A50: DCX H (R170). -/
theorem test_dcx_h :
    stepGives [0x2B] { start with h := 0x20, l := 0x00 }
      (fun t => t.h == 0x1F && t.l == 0xFF && t.pc == 0x0101 && t.flags == fl false false false false false) = true := by decide +kernel
/-- A51: DCX SP (R170). -/
theorem test_dcx_sp_wraps :
    stepGives [0x3B] { start with sp := 0x0000 }
      (fun t => t.sp == 0xFFFF && t.pc == 0x0101 && t.flags == fl false false false false false) = true := by decide +kernel
/-- A52: DAD B (R171). -/
theorem test_dad_b :
    stepGives [0x09] { start with b := 0x12, c := 0x34, h := 0x10, l := 0x01, flags := fl true true true false true }
      (fun t => t.h == 0x22 && t.l == 0x35 && t.pc == 0x0101 && t.flags == fl true true true false true) = true := by decide +kernel
/-- A53: DAD D (R171). -/
theorem test_dad_d_carry :
    stepGives [0x19] { start with d := 0x00, e := 0x01, h := 0xFF, l := 0xFF }
      (fun t => t.h == 0x00 && t.l == 0x00 && t.pc == 0x0101 && t.flags == fl false false false true false) = true := by decide +kernel
/-- A54: DAD H (R171). -/
theorem test_dad_h :
    stepGives [0x29] { start with h := 0x80, l := 0x00, flags := fl false true false false false }
      (fun t => t.h == 0x00 && t.pc == 0x0101 && t.flags == fl false true false true false) = true := by decide +kernel
/-- A56: DAD SP (R171). -/
theorem test_dad_sp :
    stepGives [0x39] { start with sp := 0x2400, h := 0x00, l := 0x10 }
      (fun t => t.h == 0x24 && t.pc == 0x0101 && t.flags == fl false false false false false) = true := by decide +kernel
/-- A57: DAA (R172). -/
theorem test_daa :
    stepGives [0x27] { start with a := 0x9B, flags := fl false false false true true }
      (fun t => t.pc == 0x0101 && t.flags == fl false false false true true) = true := by decide +kernel
/-- L1: ANA B (R180). -/
theorem test_ana_clears_carries :
    stepGives [0xA0] { start with a := 0xFC, b := 0x0F, flags := fl false false false true true }
      (fun t => t.a == 0x0C && t.pc == 0x0101 && t.flags == fl false false true false false) = true := by decide +kernel
/-- L4: ANA M (R181). -/
theorem test_ana_m :
    stepGives [0xA6] (State.memWrite { start with a := 0xF0, h := 0x20, l := 0x00, flags := fl false false false true false } 0x2000 0x0F)
      (fun t => t.a == 0x00 && t.pc == 0x0101 && t.flags == fl true false true false false) = true := by decide +kernel
/-- L5: ANI 80 (R182). -/
theorem test_ani :
    stepGives [0xE6, 0x80] { start with a := 0xFF }
      (fun t => t.a == 0x80 && t.pc == 0x0102 && t.flags == fl false true false false false) = true := by decide +kernel
/-- L6: XRA A (R183). -/
theorem test_xra_a :
    stepGives [0xAF] { start with a := 0x5A, flags := fl false true false true true }
      (fun t => t.a == 0x00 && t.pc == 0x0101 && t.flags == fl true false true false false) = true := by decide +kernel
/-- L8: XRA M (R184). -/
theorem test_xra_m :
    stepGives [0xAE] (State.memWrite { start with a := 0x55, h := 0x20, l := 0x00 } 0x2000 0xAA)
      (fun t => t.a == 0xFF && t.pc == 0x0101 && t.flags == fl false true true false false) = true := by decide +kernel
/-- L9: XRI 01 (R185). -/
theorem test_xri :
    stepGives [0xEE, 0x01] { start with a := 0x01, flags := fl false false false true false }
      (fun t => t.a == 0x00 && t.pc == 0x0102 && t.flags == fl true false true false false) = true := by decide +kernel
/-- L10: ORA C (R186). -/
theorem test_ora_c :
    stepGives [0xB1] { start with a := 0x30, c := 0x03, flags := fl false false false true false }
      (fun t => t.a == 0x33 && t.pc == 0x0101 && t.flags == fl false false true false false) = true := by decide +kernel
/-- L12: ORA M (R187). -/
theorem test_ora_m :
    stepGives [0xB6] (State.memWrite { start with a := 0x00, h := 0x20, l := 0x00 } 0x2000 0x80)
      (fun t => t.a == 0x80 && t.pc == 0x0101 && t.flags == fl false true false false false) = true := by decide +kernel
/-- L13: ORI 0F (R188). -/
theorem test_ori :
    stepGives [0xF6, 0x0F] { start with a := 0xF0 }
      (fun t => t.a == 0xFF && t.pc == 0x0102 && t.flags == fl false true true false false) = true := by decide +kernel
/-- L14: RLC (R189). -/
theorem test_rlc :
    stepGives [0x07] { start with a := 0x80 }
      (fun t => t.a == 0x01 && t.pc == 0x0101 && t.flags == fl false false false true false) = true := by decide +kernel
/-- L17: RLC (R189). -/
theorem test_rlc_keeps_flags :
    stepGives [0x07] { start with a := 0xFF, flags := fl true true true false true }
      (fun t => t.pc == 0x0101 && t.flags == fl true true true true true) = true := by decide +kernel
/-- L18: RRC (R190). -/
theorem test_rrc :
    stepGives [0x0F] { start with a := 0x01 }
      (fun t => t.a == 0x80 && t.pc == 0x0101 && t.flags == fl false false false true false) = true := by decide +kernel
/-- L19: RRC (R190). -/
theorem test_rrc_no_carry :
    stepGives [0x0F] { start with a := 0xAA, flags := fl false false false true false }
      (fun t => t.a == 0x55 && t.pc == 0x0101 && t.flags == fl false false false false false) = true := by decide +kernel
/-- L20: RAL (R191). -/
theorem test_ral_drops_bit :
    stepGives [0x17] { start with a := 0x80 }
      (fun t => t.a == 0x00 && t.pc == 0x0101 && t.flags == fl false false false true false) = true := by decide +kernel
/-- L22: RAL (R191). -/
theorem test_ral_carry_in :
    stepGives [0x17] { start with a := 0x00, flags := fl false false false true false }
      (fun t => t.a == 0x01 && t.pc == 0x0101 && t.flags == fl false false false false false) = true := by decide +kernel
/-- L23: RAR (R192). -/
theorem test_rar_drops_bit :
    stepGives [0x1F] { start with a := 0x01 }
      (fun t => t.a == 0x00 && t.pc == 0x0101 && t.flags == fl false false false true false) = true := by decide +kernel
/-- L24: RAR (R192). -/
theorem test_rar_carry_in :
    stepGives [0x1F] { start with a := 0x80, flags := fl false false false true false }
      (fun t => t.a == 0xC0 && t.pc == 0x0101 && t.flags == fl false false false false false) = true := by decide +kernel
/-- L26: CMA (R193). -/
theorem test_cma :
    stepGives [0x2F] { start with a := 0x51, flags := fl true false false false false }
      (fun t => t.a == 0xAE && t.pc == 0x0101 && t.flags == fl true false false false false) = true := by decide +kernel
/-- L29: CMC (R194). -/
theorem test_cmc :
    stepGives [0x3F] { start with flags := fl true true true false true }
      (fun t => t.pc == 0x0101 && t.flags == fl true true true true true) = true := by decide +kernel
/-- L30: STC (R195). -/
theorem test_stc :
    stepGives [0x37] start
      (fun t => t.pc == 0x0101 && t.flags == fl false false false true false) = true := by decide +kernel
/-- C1: JMP 2000 (R200). -/
theorem test_jmp :
    stepGives [0xC3, 0x00, 0x20] start
      (fun t => t.pc == 0x2000 && t.flags == fl false false false false false) = true := by decide +kernel
/-- C4: JMP 1234, instruction straddles FFFF (R200). -/
theorem test_jmp_straddles :
    stepGives [0xC3, 0x34, 0x12] (State.memWrite { start with pc := 0xFFFE } 0x0000 0x12)
      (fun t => t.pc == 0x1234 && t.flags == fl false false false false false) = true := by decide +kernel
/-- C5: JNZ 2000 (taken) (R201). -/
theorem test_jnz :
    stepGives [0xC2, 0x00, 0x20] start
      (fun t => t.pc == 0x2000 && t.flags == fl false false false false false) = true := by decide +kernel
/-- C6: JNZ 2000 (not taken) (R201). -/
theorem test_jnz_not :
    stepGives [0xC2, 0x00, 0x20] { start with flags := fl true false false false false }
      (fun t => t.pc == 0x0103 && t.flags == fl true false false false false) = true := by decide +kernel
/-- C8: JZ 2000 (not taken) (R201). -/
theorem test_jz_not :
    stepGives [0xCA, 0x00, 0x20] start
      (fun t => t.pc == 0x0103 && t.flags == fl false false false false false) = true := by decide +kernel
/-- C9: JNC 2000 (taken) (R201). -/
theorem test_jnc :
    stepGives [0xD2, 0x00, 0x20] start
      (fun t => t.pc == 0x2000 && t.flags == fl false false false false false) = true := by decide +kernel
/-- C11: JC 2000 (taken) (R201). -/
theorem test_jc :
    stepGives [0xDA, 0x00, 0x20] { start with flags := fl false false false true false }
      (fun t => t.pc == 0x2000 && t.flags == fl false false false true false) = true := by decide +kernel
/-- C13: JPO 2000 (taken) (R201). -/
theorem test_jpo :
    stepGives [0xE2, 0x00, 0x20] start
      (fun t => t.pc == 0x2000 && t.flags == fl false false false false false) = true := by decide +kernel
/-- C15: JPE 2000 (taken) (R201). -/
theorem test_jpe :
    stepGives [0xEA, 0x00, 0x20] { start with flags := fl false false true false false }
      (fun t => t.pc == 0x2000 && t.flags == fl false false true false false) = true := by decide +kernel
/-- C17: JP 2000 (taken) (R201). -/
theorem test_jp :
    stepGives [0xF2, 0x00, 0x20] start
      (fun t => t.pc == 0x2000 && t.flags == fl false false false false false) = true := by decide +kernel
/-- C19: JM 2000 (taken) (R201). -/
theorem test_jm :
    stepGives [0xFA, 0x00, 0x20] { start with flags := fl false true false false false }
      (fun t => t.pc == 0x2000 && t.flags == fl false true false false false) = true := by decide +kernel
/-- C21: CALL 2000 (R202). -/
theorem test_call :
    stepGives [0xCD, 0x00, 0x20] start
      (fun t => t.sp == 0x23FE && t.pc == 0x2000 && t.memRead 0x23FE == 0x03 && t.memRead 0x23FF == 0x01 && t.flags == fl false false false false false) = true := by decide +kernel
/-- C24: CALL 2000, push overwrites the CALL (R202). -/
theorem test_call_overwrites_itself :
    stepGives [0xCD, 0x00, 0x20] { start with sp := 0x0102 }
      (fun t => t.sp == 0x0100 && t.pc == 0x2000 && t.memRead 0x0100 == 0x03 && t.memRead 0x0101 == 0x01 && t.flags == fl false false false false false) = true := by decide +kernel
/-- C25: CC 2000 (taken) (R203). -/
theorem test_cc :
    stepGives [0xDC, 0x00, 0x20] { start with flags := fl false false false true false }
      (fun t => t.sp == 0x23FE && t.pc == 0x2000 && t.memRead 0x23FE == 0x03 && t.memRead 0x23FF == 0x01 && t.flags == fl false false false true false) = true := by decide +kernel
/-- C27: CNZ 2000 (taken) (R203). -/
theorem test_cnz :
    stepGives [0xC4, 0x00, 0x20] start
      (fun t => t.sp == 0x23FE && t.pc == 0x2000 && t.memRead 0x23FE == 0x03 && t.memRead 0x23FF == 0x01 && t.flags == fl false false false false false) = true := by decide +kernel
/-- C28: CNZ 2000 (not taken) (R203). -/
theorem test_cnz_not :
    stepGives [0xC4, 0x00, 0x20] { start with flags := fl true false false false false }
      (fun t => t.pc == 0x0103 && t.flags == fl true false false false false) = true := by decide +kernel
/-- C29: CPE 2000 (taken) (R203). -/
theorem test_cpe :
    stepGives [0xEC, 0x00, 0x20] { start with flags := fl false false true false false }
      (fun t => t.sp == 0x23FE && t.pc == 0x2000 && t.memRead 0x23FE == 0x03 && t.memRead 0x23FF == 0x01 && t.flags == fl false false true false false) = true := by decide +kernel
/-- C30: CP 2000 (not taken) (R203). -/
theorem test_cp_not :
    stepGives [0xF4, 0x00, 0x20] { start with flags := fl false true false false false }
      (fun t => t.pc == 0x0103 && t.flags == fl false true false false false) = true := by decide +kernel
/-- C31: RET (R204). -/
theorem test_ret :
    stepGives [0xC9] ((State.memWrite { start with sp := 0x23FE } 0x23FE 0x03).memWrite 0x23FF 0x01)
      (fun t => t.sp == 0x2400 && t.pc == 0x0103 && t.flags == fl false false false false false) = true := by decide +kernel
/-- C32: RET (R204). -/
theorem test_ret_wraps :
    stepGives [0xC9] ((State.memWrite { start with sp := 0xFFFF } 0x0000 0x56).memWrite 0xFFFF 0x78)
      (fun t => t.sp == 0x0001 && t.pc == 0x5678 && t.flags == fl false false false false false) = true := by decide +kernel
/-- C33: RZ (taken) (R205). -/
theorem test_rz :
    stepGives [0xC8] ((State.memWrite { start with sp := 0x23FE, flags := fl true false false false false } 0x23FE 0x03).memWrite 0x23FF 0x01)
      (fun t => t.sp == 0x2400 && t.pc == 0x0103 && t.flags == fl true false false false false) = true := by decide +kernel
/-- C34: RZ (not taken) (R205). -/
theorem test_rz_not :
    stepGives [0xC8] ((State.memWrite { start with sp := 0x23FE } 0x23FE 0x03).memWrite 0x23FF 0x01)
      (fun t => t.pc == 0x0101 && t.flags == fl false false false false false) = true := by decide +kernel
/-- C35: RM (taken) (R205). -/
theorem test_rm :
    stepGives [0xF8] ((State.memWrite { start with sp := 0x23FE, flags := fl false true false false false } 0x23FE 0x03).memWrite 0x23FF 0x01)
      (fun t => t.sp == 0x2400 && t.pc == 0x0103 && t.flags == fl false true false false false) = true := by decide +kernel
/-- C36: RPO (not taken) (R205). -/
theorem test_rpo_not :
    stepGives [0xE0] ((State.memWrite { start with sp := 0x23FE, flags := fl false false true false false } 0x23FE 0x03).memWrite 0x23FF 0x01)
      (fun t => t.pc == 0x0101 && t.flags == fl false false true false false) = true := by decide +kernel
/-- C37: RST 0 (R206). -/
theorem test_rst_0 :
    stepGives [0xC7] start
      (fun t => t.sp == 0x23FE && t.pc == 0x0000 && t.memRead 0x23FE == 0x01 && t.memRead 0x23FF == 0x01 && t.flags == fl false false false false false) = true := by decide +kernel
/-- C44: RST 7 (R206). -/
theorem test_rst_7 :
    stepGives [0xFF] start
      (fun t => t.sp == 0x23FE && t.pc == 0x0038 && t.memRead 0x23FE == 0x01 && t.memRead 0x23FF == 0x01 && t.flags == fl false false false false false) = true := by decide +kernel
/-- C45: PCHL (R207). -/
theorem test_pchl :
    stepGives [0xE9] { start with h := 0x12, l := 0x34 }
      (fun t => t.pc == 0x1234 && t.flags == fl false false false false false) = true := by decide +kernel
/-- S1: PUSH B (R220). -/
theorem test_push_b :
    stepGives [0xC5] { start with b := 0x12, c := 0x34 }
      (fun t => t.sp == 0x23FE && t.pc == 0x0101 && t.memRead 0x23FE == 0x34 && t.memRead 0x23FF == 0x12 && t.flags == fl false false false false false) = true := by decide +kernel
/-- S2: PUSH D (R220). -/
theorem test_push_d :
    stepGives [0xD5] { start with d := 0x56, e := 0x78 }
      (fun t => t.sp == 0x23FE && t.pc == 0x0101 && t.memRead 0x23FE == 0x78 && t.memRead 0x23FF == 0x56 && t.flags == fl false false false false false) = true := by decide +kernel
/-- S3: PUSH H (R220). -/
theorem test_push_h_wraps :
    stepGives [0xE5] { start with h := 0x9A, l := 0xBC, sp := 0x0001 }
      (fun t => t.sp == 0xFFFF && t.pc == 0x0101 && t.memRead 0x0000 == 0x9A && t.memRead 0xFFFF == 0xBC && t.flags == fl false false false false false) = true := by decide +kernel
/-- S4: PUSH PSW (R221). -/
theorem test_push_psw :
    stepGives [0xF5] { start with a := 0x9A, flags := fl true false false true false }
      (fun t => t.sp == 0x23FE && t.pc == 0x0101 && t.memRead 0x23FE == 0x43 && t.memRead 0x23FF == 0x9A && t.flags == fl true false false true false) = true := by decide +kernel
/-- S6: PUSH PSW (R221). -/
theorem test_push_psw_all :
    stepGives [0xF5] { start with a := 0xFF, flags := fl true true true true true }
      (fun t => t.sp == 0x23FE && t.pc == 0x0101 && t.memRead 0x23FE == 0xD7 && t.memRead 0x23FF == 0xFF && t.flags == fl true true true true true) = true := by decide +kernel
/-- S8: POP B (R222). -/
theorem test_pop_b :
    stepGives [0xC1] ((State.memWrite { start with sp := 0x23FE } 0x23FE 0x34).memWrite 0x23FF 0x12)
      (fun t => t.b == 0x12 && t.c == 0x34 && t.sp == 0x2400 && t.pc == 0x0101 && t.flags == fl false false false false false) = true := by decide +kernel
/-- S9: POP D (R222). -/
theorem test_pop_d :
    stepGives [0xD1] ((State.memWrite { start with sp := 0x23FE } 0x23FE 0x78).memWrite 0x23FF 0x56)
      (fun t => t.d == 0x56 && t.e == 0x78 && t.sp == 0x2400 && t.pc == 0x0101 && t.flags == fl false false false false false) = true := by decide +kernel
/-- S10: POP H (R222). -/
theorem test_pop_h_wraps :
    stepGives [0xE1] ((State.memWrite { start with sp := 0xFFFF } 0x0000 0x9A).memWrite 0xFFFF 0xBC)
      (fun t => t.h == 0x9A && t.l == 0xBC && t.sp == 0x0001 && t.pc == 0x0101 && t.flags == fl false false false false false) = true := by decide +kernel
/-- S11: POP PSW (R223). -/
theorem test_pop_psw :
    stepGives [0xF1] ((State.memWrite { start with sp := 0x23FE } 0x23FE 0x47).memWrite 0x23FF 0x80)
      (fun t => t.a == 0x80 && t.sp == 0x2400 && t.pc == 0x0101 && t.flags == fl true false true true false) = true := by decide +kernel
/-- S14: POP PSW (R223). -/
theorem test_pop_psw_ignores_padding :
    stepGives [0xF1] ((State.memWrite { start with sp := 0x23FE } 0x23FE 0x28).memWrite 0x23FF 0x33)
      (fun t => t.a == 0x33 && t.sp == 0x2400 && t.pc == 0x0101 && t.flags == fl false false false false false) = true := by decide +kernel
/-- S15: XTHL (R224). -/
theorem test_xthl :
    stepGives [0xE3] ((State.memWrite { start with h := 0x12, l := 0x34, sp := 0x23FE } 0x23FE 0x78).memWrite 0x23FF 0x56)
      (fun t => t.h == 0x56 && t.l == 0x78 && t.pc == 0x0101 && t.memRead 0x23FE == 0x34 && t.memRead 0x23FF == 0x12 && t.flags == fl false false false false false) = true := by decide +kernel
/-- S16: XTHL (R224). -/
theorem test_xthl_wraps :
    stepGives [0xE3] ((State.memWrite { start with h := 0x12, l := 0x34, sp := 0xFFFF } 0x0000 0x56).memWrite 0xFFFF 0x78)
      (fun t => t.h == 0x56 && t.l == 0x78 && t.pc == 0x0101 && t.memRead 0x0000 == 0x12 && t.memRead 0xFFFF == 0x34 && t.flags == fl false false false false false) = true := by decide +kernel
/-- S17: SPHL (R225). -/
theorem test_sphl :
    stepGives [0xF9] { start with h := 0x30, l := 0x00 }
      (fun t => t.sp == 0x3000 && t.pc == 0x0101 && t.flags == fl false false false false false) = true := by decide +kernel
/-- S18: EI (R226). -/
theorem test_ei :
    stepGives [0xFB] start
      (fun t => t.inte == true && t.pc == 0x0101 && t.flags == fl false false false false false) = true := by decide +kernel
/-- S20: DI (R227). -/
theorem test_di :
    stepGives [0xF3] { start with inte := true }
      (fun t => t.inte == false && t.pc == 0x0101 && t.flags == fl false false false false false) = true := by decide +kernel
/-- S22: HLT (R228). -/
theorem test_hlt :
    stepGives [0x76] { start with inte := true, flags := fl true false false true false }
      (fun t => t.pc == 0x0101 && t.flags == fl true false false true false && t.result == .halted) = true := by decide +kernel
/-- S23: HLT (R228). -/
theorem test_hlt_wraps :
    stepGives [0x76] { start with pc := 0xFFFF }
      (fun t => t.pc == 0x0000 && t.flags == fl false false false false false && t.result == .halted) = true := by decide +kernel
/-- S24: NOP (R229). -/
theorem test_nop :
    stepGives [0x00] { start with flags := fl true true true true true }
      (fun t => t.pc == 0x0101 && t.flags == fl true true true true true) = true := by decide +kernel
/-- S26: NOP (alternate 08) (R230). -/
theorem test_nop08 :
    stepGives [0x08] start
      (fun t => t.pc == 0x0101 && t.flags == fl false false false false false) = true := by decide +kernel
/-- S32: NOP (alternate 38) (R230). -/
theorem test_nop38 :
    stepGives [0x38] start
      (fun t => t.pc == 0x0101 && t.flags == fl false false false false false) = true := by decide +kernel
/-- S33: IN 01 (R231): Unimplemented(DB). -/
theorem test_unimplemented_DB : stepFaults [0xDB, 0x01] start (.unimplemented 0xDB) = true := by decide +kernel
/-- S34: OUT 02 (R232): Unimplemented(D3). -/
theorem test_unimplemented_D3 : stepFaults [0xD3, 0x02] start (.unimplemented 0xD3) = true := by decide +kernel
/-- S35: (undocumented CB) (R233): Unimplemented(CB). -/
theorem test_unimplemented_CB : stepFaults [0xCB, 0x00, 0x20] start (.unimplemented 0xCB) = true := by decide +kernel
/-- S36: (undocumented D9) (R233): Unimplemented(D9). -/
theorem test_unimplemented_D9 : stepFaults [0xD9, 0x00, 0x20] start (.unimplemented 0xD9) = true := by decide +kernel
/-- S37: (undocumented DD) (R233): Unimplemented(DD). -/
theorem test_unimplemented_DD : stepFaults [0xDD, 0x00, 0x20] start (.unimplemented 0xDD) = true := by decide +kernel
/-- S38: (undocumented ED) (R233): Unimplemented(ED). -/
theorem test_unimplemented_ED : stepFaults [0xED, 0x00, 0x20] start (.unimplemented 0xED) = true := by decide +kernel
/-- S39: (undocumented FD) (R233): Unimplemented(FD). -/
theorem test_unimplemented_FD : stepFaults [0xFD, 0x00, 0x20] start (.unimplemented 0xFD) = true := by decide +kernel

/-! The interrupt operation and reset: vectors I1 to I9, X1; programs P0 and P6 of section 4, one step each -/

/-- I1 (R258). -/
theorem test_interrupt_taken :
    interruptGives 2 { start with inte := true, pc := 0x1234 } (fun t => t.memRead 0x23FF == 0x12 && t.memRead 0x23FE == 0x34 &&
      t.sp == 0x23FE && t.pc == 0x0010 && t.inte == false) = true := by decide +kernel
/-- I3: the highest vector (R258). -/
theorem test_interrupt_highest_vector :
    interruptGives 7 { start with inte := true, pc := 0x1234 } (fun t => t.pc == 0x0038 && t.sp == 0x23FE) = true := by decide +kernel
/-- I4 (R257). -/
theorem test_interrupt_ignored : interruptGives 2 { start with pc := 0x1234 } (fun t => t == { start with pc := 0x1234 }) = true := by decide +kernel
/-- I5 (R252). -/
theorem test_interrupt_invalid : isFault .invalidInterrupt (interrupt 8 { start with inte := true }) = true := by decide +kernel
/-- I6: the range is checked first (R252). -/
theorem test_interrupt_range_first : isFault .invalidInterrupt (interrupt 8 start) = true := by decide +kernel
/-- I7: the push wraps (R258). -/
theorem test_interrupt_wraps :
    interruptGives 5 { start with inte := true, pc := 0xABCD, sp := 0x0001 } (fun t => t.memRead 0x0000 == 0xAB &&
      t.memRead 0xFFFF == 0xCD && t.sp == 0xFFFF && t.pc == 0x0028) = true := by decide +kernel
/-- I9: flags and A are not changed (R258). -/
theorem test_interrupt_keeps_registers :
    interruptGives 4 { start with inte := true, pc := 0x0200, a := 0x5A, flags := fl true true true true true }
      (fun t => t.a == 0x5A && t.flags == fl true true true true true && t.pc == 0x0020) = true := by decide +kernel
/-- X1 (R24, R280). -/
theorem test_reset :
    ({ start with pc := 0x1234, inte := true, a := 0x5A, flags := fl true false false false true } : State).applyReset =
      { start with pc := 0x0000, inte := false, a := 0x5A, flags := fl true false false false false } := by decide +kernel
/-- The codes of R255. -/
theorem test_result_codes :
    [StepResult.cont.code, StepResult.halted.code, (StepResult.unimplemented 0xDB).code] = [0, 1, 2] := by decide
/-- R56: the transactions of CALL, in order: three instruction bytes, then SP-1, then SP-2. -/
theorem test_call_transactions :
    stepTransactions (start.storeBytes 0x0100 [0xCD, 0x00, 0x20]) =
      [.read 0x0100, .read 0x0101, .read 0x0102, .write 0x23FF 0x01, .write 0x23FE 0x03] := by decide +kernel
/-- R258, R56: an interrupt that is taken writes twice and reads nothing. -/
theorem test_interrupt_transactions :
    interruptTransactions 2 { start with inte := true, pc := 0x1234 } = [.write 0x23FF 0x12, .write 0x23FE 0x34] := by decide +kernel
/-- A write of the value an unlisted byte reads as takes its entry out. -/
theorem test_memory_canonical : ((start.memWrite 0x2000 0x77).memWrite 0x2000 0x00).mem = [] := by decide +kernel
/-- Entries stand in rising order. -/
theorem test_memory_sorted :
    (((start.memWrite 0x2001 0x02).memWrite 0xFFFF 0x03).memWrite 0x2000 0x01).mem =
      [(0x2000, 0x01), (0x2001, 0x02), (0xFFFF, 0x03)] := by decide +kernel

/-! Schedules of host operations and the ends of runs (R259, R267) -/

/-- R259: an interrupt after a step that returned Unimplemented pushes the address of the offending opcode. -/
theorem test_interrupt_after_unimplemented :
    (performAll [.step, .interrupt 2] (State.storeBytes { start with inte := true, pc := 0x1234 } 0x1234 [0xDB])).pc = 0x0010 ∧
    (performAll [.step, .interrupt 2] (State.storeBytes { start with inte := true, pc := 0x1234 } 0x1234 [0xDB])).memRead 0x23FF = 0x12 ∧
    (performAll [.step, .interrupt 2] (State.storeBytes { start with inte := true, pc := 0x1234 } 0x1234 [0xDB])).memRead 0x23FE = 0x34 := by
  decide +kernel
/-- R251, R29: the host writes PC past the opcode and steps on, to the NOP at 0101. -/
theorem test_host_steps_on_after_unimplemented :
    (performAll [.step, .write (.pc 0x0101), .step] (start.storeBytes 0x0100 [0xD3])).pc = 0x0102 := by decide +kernel
/-- R267: but the run of that schedule ended at its first step, in the state before it. -/
theorem test_run_ends_in_fault :
    runEnd [.step, .write (.pc 0x0101), .step] (start.storeBytes 0x0100 [0xD3]) =
      some (.unimplemented 0xD3 (start.storeBytes 0x0100 [0xD3])) := by decide +kernel
/-- R267: a run with an interrupt in it (EI, the interrupt, NOP at 0038, HLT at 0039) ends normally, PC one past the HLT. -/
theorem test_run_with_interrupt_halts :
    (match runEnd [.step, .interrupt 7, .step, .step, .step] ((start.storeBytes 0x0100 [0xFB]).storeBytes 0x0039 [0x76]) with
      | some (.halted t) => t.pc == 0x003A && t.sp == 0x23FE && t.memRead 0x23FE == 0x01
      | some (.unimplemented _ _) => false
      | none => false) = true := by decide +kernel
/-- R252, K-16: InvalidInterrupt is no step result and ends no run; without a HLT the run of this schedule has no end. -/
theorem test_invalid_interrupt_ends_no_run :
    runEnd [.interrupt 8, .step] start = none ∧ (performAll [.interrupt 8, .step] start).pc = 0x0101 := by decide +kernel
/-- R259: the second of two requests finds INTE false, unless a step executing EI comes between. -/
theorem test_second_interrupt_dropped :
    (performAll [.interrupt 2, .interrupt 3] { start with inte := true }).pc = 0x0010 ∧
    (performAll [.interrupt 2, .step, .interrupt 3] (State.storeBytes { start with inte := true } 0x0010 [0xFB])).pc = 0x0018 := by
  decide +kernel

/-- A memory that differs from that of `start` at one byte. -/
def otherMemory : Memory := [(0x0005, 0x01)]

/-! Witnesses: for every obligation with a hypothesis, and for every clause of one with several, operands and a state that meet it -/

theorem witness_EncodeOfDecodeIsBytesRead :
    (decode [0x3E, 0x05] = .ok (.mviA 0x05, [])) ∧ (∃ op rest, ([0xC3, 0x34, 0x12] : List Byte) = op :: rest ∧ opcodeLength op ≤ 3) :=
  ⟨rfl, _, _, rfl, by decide⟩
theorem witness_EncodingFollowsFieldPatterns_nop : encode .nop38 = [0b00#2 ++ (7 : BitVec 3) ++ 0b000#3] := rfl
theorem witness_LengthIsGivenByOpcodeByte :
    (0xFE : Byte) ∈ formatI1 ∧ (0xFC : Byte) ∈ formatI2 ∧ (0xFE : Byte) ∉ formatI2 ∧ (0x00 : Byte) ∉ formatI1 := by decide
theorem witness_UnimplementedAndAlternateNopSets :
    (0x38 : Byte) ∈ ([0x08, 0x10, 0x18, 0x20, 0x28, 0x30, 0x38] : List Byte) ∧
    (0xFD : Byte) ∈ ([0xD3, 0xDB, 0xCB, 0xD9, 0xDD, 0xED, 0xFD] : List Byte) := by decide
theorem witness_AssemblerTermsAreTheInstructions : (Asm.rst 7).wellFormed = true := by decide
theorem witness_MemoryAccessIsLittleEndian : (1 : Word) ≠ 0xFFFF ∧ (1 : Word) ≠ 0xFFFF + 1 := by decide
theorem witness_PushThenPopPrimitivesRoundTrip :
    (1 : Word) ≠ ({ start with sp := 0x0001 } : State).sp - 1 ∧ (1 : Word) ≠ ({ start with sp := 0x0001 } : State).sp - 2 := by decide
theorem witness_MovIntoRegister :
    Instr.movHM.asm = .mov (.r .h) .m ∧ Instr.movAA.asm = .mov (.r .a) (.r .a) := ⟨rfl, rfl⟩
theorem witness_OneByteStoresStoreOneByte :
    oneByteStore .movMH { start with h := 0xFF, l := 0xFF } = some (0xFFFF, 0xFF, [0x74]) ∧
    oneByteStore (.mviM 0x42) start = some (0x0000, 0x42, [0x36, 0x42]) ∧
    oneByteStore (.sta 0x2001) { start with a := 0x5C } = some (0x2001, 0x5C, [0x32, 0x01, 0x20]) ∧
    oneByteStore .staxD { start with d := 0x20 } = some (0x2000, 0x00, [0x12]) ∧ (0x2001 : Word) ≠ 0x2000 := by decide
theorem witness_ImmediateLoads : (Instr.mviL 0xFF).asm = .mvi (.r .l) 0xFF := rfl
theorem witness_ShldStoresBothBytes : (1 : Word) ≠ 0xFFFF ∧ (1 : Word) ≠ 0xFFFF + 1 := by decide
theorem witness_AddFamilyAddsWithCarryOut :
    aluForm .addB { start with b := 0x10 } = some (.add, 0x10, [0x80]) ∧ aluForm .adcM start = some (.adc, 0x00, [0x8E]) ∧
    aluForm (.aci 0xFF) start = some (.adc, 0xFF, [0xCE, 0xFF]) := by decide
theorem witness_SubFamilySubtractsWithBorrow :
    aluForm .subA { start with a := 0x3C } = some (.sub, 0x3C, [0x97]) ∧ aluForm .sbbM start = some (.sbb, 0x00, [0x9E]) ∧
    aluForm (.sbi 0xFF) start = some (.sbb, 0xFF, [0xDE, 0xFF]) := by decide
theorem witness_CompareAgreesWithSubtract :
    aluForm .cmpB { start with b := 0x06 } = some (.cmp, 0x06, [0xB8]) ∧ aluForm .subB { start with b := 0x06 } = some (.sub, 0x06, [0x90]) ∧
    aluForm (.cpi 0x80) start = some (.cmp, 0x80, [0xFE, 0x80]) := by decide
theorem witness_IncrementDecrementRegister : Instr.inrA.asm = .inr (.r .a) ∧ Instr.dcrB.asm = .dcr (.r .b) := ⟨rfl, rfl⟩
theorem witness_IncrementDecrementMemory :
    (Instr.inrM = .inrM ∧ true = true ∨ Instr.inrM = .dcrM ∧ true = false) ∧
    (Instr.dcrM = .inrM ∧ false = true ∨ Instr.dcrM = .dcrM ∧ false = false) ∧ (1 : Word) ≠ start.hl := by decide
theorem witness_PairIncrementDecrement : Instr.inxSP.asm = .inx .sp ∧ Instr.dcxB.asm = .dcx .bc := ⟨rfl, rfl⟩
theorem witness_DadAddsPairToHL : Instr.dadSP.asm = .dad .sp ∧ Instr.dadH.asm = .dad .hl := ⟨rfl, rfl⟩
theorem witness_NoOperationsOnlyAdvance : Instr.daa.asm = .daa ∧ Instr.nop08.asm = .nop ∧ Instr.nop.asm = .nop := ⟨rfl, rfl, rfl⟩
theorem witness_LogicalFamilyClearsCarries :
    aluForm .anaB { start with b := 0x0F } = some (.ana, 0x0F, [0xA0]) ∧ aluForm .xraM start = some (.xra, 0x00, [0xAE]) ∧
    aluForm (.ori 0x0F) start = some (.ora, 0x0F, [0xF6, 0x0F]) := by decide
theorem witness_JumpsReachTheirTarget :
    (Instr.jpe 0x2000).asm = .jcc .pe 0x2000 ∧ condTrue (fl false false true false false) .pe = true ∧
    condTrue (fl false false false false false) .pe = false := by decide
theorem witness_CallsPushReturnAddress :
    callForm (.call 0x2000) start = some (0x0103, 0x2000, [0xCD, 0x00, 0x20]) ∧
    callForm (.cnz 0x2000) start = some (0x0103, 0x2000, [0xC4, 0x00, 0x20]) ∧
    callForm .rst7 start = some (0x0101, 0x0038, [0xFF]) ∧ callForm .rst0 start = some (0x0101, 0x0000, [0xC7]) ∧
    ((Instr.cz 0x2000).asm = .ccc .z 0x2000 ∧ condTrue start.flags .z = false) := by decide
theorem witness_ReturnsPopProgramCounter :
    Instr.rz.asm = .rcc .z ∧ condTrue (fl true false false false false) .z = true ∧ condTrue start.flags .z = false := by decide
theorem witness_CallThenReturnResumes : callForm .rst5 start = some (0x0101, 0x0028, [0xEF]) := by decide
theorem witness_PushStoresPair :
    Instr.pushPSW.asm = .push .psw ∧ Instr.pushH.asm = .push .hl ∧ (1 : Word) ≠ start.sp - 1 ∧ (1 : Word) ≠ start.sp - 2 := by decide
theorem witness_PushThenPopRestores :
    Instr.pushPSW.asm = .push .psw ∧ Instr.popB.asm = .pop .bc ∧ PairName.bc ≠ .psw ∧ Instr.popPSW.asm = .pop .psw := by decide
theorem witness_XthlAndSphl : (1 : Word) ≠ start.sp ∧ (1 : Word) ≠ start.sp + 1 := by decide
theorem witness_UnimplementedOpcodesStop : Instr.unimplFD.asm = .unimplemented 0xFD := rfl
theorem witness_StepRunsDecodedInstruction :
    decode [start.memRead start.pc, start.memRead (start.pc + 1), start.memRead (start.pc + 2)] = .ok (.nop, [0x00, 0x00]) := by
  decide +kernel
theorem witness_StepResultIsGivenByOpcode :
    (start.storeBytes 0x0100 [0xFD]).memRead 0x0100 ∈ Config.unimplOpcodes ∧
    (start.storeBytes 0x0100 [0x76]).memRead 0x0100 ∉ Config.unimplOpcodes := by decide +kernel
theorem witness_StepKeepsCanonicalMemory :
    Inv (start.storeBytes 0x0100 [0x36, 0x42]) ∧
    ∃ t, step (start.storeBytes 0x0100 [0x36, 0x42]) = .next t := ⟨by unfold Inv; decide +kernel, exists_next (by decide +kernel)⟩
theorem witness_EveryRunKeepsCanonicalMemory :
    Inv start ∧ Inv (performAll [.write (.inte true), .step, .interrupt 8, .interrupt 7, .reset] start) := by
  unfold Inv; decide +kernel
theorem witness_FlagsChangeOnlyByTheirWriters :
    (∃ t, exec .movBC start = .next t) ∧ writesZSP Instr.movBC.asm = false ∧ writesCY Instr.inrB.asm = false ∧
    (isLogical Instr.addB.asm || decide (Instr.addB = .popPSW)) = false := ⟨exists_next (by decide +kernel), by decide⟩
theorem witness_AuxiliaryCarryWriters :
    (∃ t, exec .popPSW start = .next t) ∧ Instr.popPSW ≠ .pushPSW ∧ (∃ t, interrupt 0 { start with inte := true } = .next t) :=
  ⟨exists_next (by decide +kernel), by decide, exists_next (by decide +kernel)⟩
theorem witness_InterruptEnableWritersAndReaders :
    (∃ t, exec .ei start = .next t) ∧ ((7 : Nat) ≤ 7 ∧ ({ start with inte := true } : State).inte = true) ∧
    ((7 : Nat) ≤ 7 ∧ start.inte = false) := ⟨exists_next (by decide +kernel), by decide, by decide⟩
theorem witness_StackPointerWriters : ∃ t, exec (.lxiSP 0x2400) start = .next t := exists_next (by decide +kernel)
theorem witness_ProgramCounterAfterEveryInstruction : ∃ t, exec (.jnz 0x2000) start = .next t := exists_next (by decide +kernel)
theorem witness_RegistersChangeOnlyAsDestinations :
    (∃ t, exec .xchg start = .next t) ∧ Reg.b ∉ destinations Instr.xchg.asm := ⟨exists_next (by decide +kernel), by decide⟩
theorem witness_MemoryChangesOnlyByListedWrites :
    (∃ t, exec (.shld 0xFFFF) start = .next t) ∧ ∀ w ∈ dataWrites (.shld 0xFFFF) start, w.1 ≠ 0x0001 :=
  ⟨exists_next (by decide +kernel), forall_mem_of_all (by decide +kernel)⟩
theorem witness_InstructionsReadOnlyListedBytes :
    (∀ a ∈ dataReads .ret start, (otherMemory.read a.toNat : Byte) = start.memRead a) ∧ ∃ t, exec .ret start = .next t := by
  exact ⟨forall_mem_of_all (by decide +kernel), exists_next (by decide +kernel)⟩
theorem witness_NoHaltedLatch :
    fetch (start.storeBytes 0x0100 [0x76]) = .hlt ∧ (∃ t, step (start.storeBytes 0x0100 [0x76]) = .next t) ∧
    ∃ t, interrupt 0 start = .next t :=
  ⟨by decide +kernel, exists_next (by decide +kernel), exists_next (by decide +kernel)⟩
theorem witness_StoreIntoNextInstructionIsExecuted :
    fetch (State.storeBytes { start with a := 0x04 } 0x0100 [0x32, 0x03, 0x01]) = .sta (0x0100 + 3) ∧
    decode [0x04, (State.storeBytes { start with a := 0x04 } 0x0100 [0x32, 0x03, 0x01]).memRead 0x0104, 0x00] =
      .ok (.inrB, [0x00, 0x00]) := by decide +kernel
theorem witness_InterruptOperation :
    ((7 : Nat) ≤ 7 ∧ ({ start with inte := true } : State).inte = true) ∧ ((0 : Nat) ≤ 7 ∧ start.inte = false) ∧ (7 : Nat) < 8 := by
  decide
theorem witness_InterruptEqualsRestartThenDisable :
    Instr.rst7.asm = .rst 7 ∧ ({ start with inte := true } : State).inte = true := ⟨rfl, rfl⟩
theorem witness_InterruptThenReturnResumes :
    ({ start with inte := true } : State).inte = true ∧ ∃ t, interrupt 7 { start with inte := true } = .next t := ⟨rfl, exists_next (by decide +kernel)⟩
theorem witness_InterruptBetweenStepsResumes :
    ((7 : Nat) ≤ 7 ∧ (stateAfter .step (State.storeBytes { start with inte := true, pc := 0xFFFF } 0xFFFF [0x76])).inte = true) ∧
    (stateAfter .step (State.storeBytes start 0x0100 [0xFB])).inte = true ∧
    fetch (State.storeBytes start 0x0100 [0x76]) = .hlt ∧
    (State.storeBytes start 0x0100 [0xCB]).memRead 0x0100 ∈ Config.unimplOpcodes ∧
    ({ start with inte := true } : State).inte = true := by decide +kernel
theorem witness_JumpToItselfNeverEnds :
    fetch (start.storeBytes 0x0100 [0xC3, 0x00, 0x01]) = .jmp 0x0100 ∧
    ∀ op ∈ ([.step, .interrupt 7, .interrupt 8, .step] : List Operation),
      op = .step ∨ (start.storeBytes 0x0100 [0xC3, 0x00, 0x01]).inte = false ∧ ∃ n, op = .interrupt n := by
  refine ⟨by decide +kernel, ?_⟩
  have quiet : (start.storeBytes 0x0100 [0xC3, 0x00, 0x01]).inte = false := by decide +kernel
  simp only [List.forall_mem_cons, quiet]
  exact ⟨.inl trivial, .inr ⟨trivial, 7, rfl⟩, .inr ⟨trivial, 8, rfl⟩, .inl trivial, fun _ h => nomatch h⟩

end Sys2Proof.Tests
end

section
/-! Proofs about the state (spec/10_state.md). The status word and the register file; the result of a step, read off its opcode byte; and
who writes AC and INTE and who reads them. The last two rest on one lemma, `meaning_withUnread`: an instruction run with another INTE and
another AC is the same run with the two bits replaced at its end. -/

namespace Sys2Proof.Machine

open Sys2Proof.Certificates

/-! The status word (R13) -/

/-- The bits of the status word, bit 0 first (R13). -/
theorem packPSW_bits (f : Flags) :
    (List.range 8).map (packPSW f).getLsbD = [f.cy, true, f.p, false, f.ac, false, f.z, f.s] := by
  obtain ⟨z, s, p, cy, ac⟩ := f
  revert z s p cy ac; decide

/-- Packing what a byte unpacks to keeps its five flag bits and forces the padding. -/
theorem packPSW_unpackPSW (b : Byte) : packPSW (unpackPSW b) = (b &&& 0b11010111) ||| 0b00000010 := by
  revert b; decide +kernel

/-- Settles O11, over the 32 flag values and the 256 bytes. -/
theorem statusWordLayout : Obligations.StatusWordLayout :=
  ⟨fun f => ⟨packPSW_bits f, unpackPSW_packPSW f⟩, packPSW_unpackPSW⟩

/-! Registers, the resolver and the pairs (R11, R12) -/

/-- A register write touches the seven registers only. -/
theorem State.setReg_frame (s : State) (r : Reg) (v : Byte) :
    s.setReg r v = { s with
      a := (s.setReg r v).a
      b := (s.setReg r v).b
      c := (s.setReg r v).c
      d := (s.setReg r v).d
      e := (s.setReg r v).e
      h := (s.setReg r v).h
      l := (s.setReg r v).l } := by
  cases r <;> rfl

/-- Reading HL after writing it gives the value written. -/
theorem State.hl_setPair_hl (s : State) (v : Word) : (s.setPair .hl v).hl = v := joinBytes_hi_lo v

/-- Settles O8, from the laws of registers, memory and pairs. -/
theorem registerFileAndResolver : Obligations.RegisterFileAndResolver := by
  refine ⟨rfl, fun s r r' v => ?read, State.setReg_frame, State.readOperand_r, State.readOperand_m, State.writeOperand_r,
    fun s v a => ?memory, fun s => ?pairs, fun s v => ?write⟩
  case read => simp only [State.reg_setReg, eq_comm]
  case memory => simp only [State.writeOperand_m, State.memRead_memWrite]
  case pairs => exact ⟨joinBytes_toNat _ _, joinBytes_toNat _ _, joinBytes_toNat _ _⟩
  case write =>
    exact ⟨hiByte v, loByte v, hiByte_toNat v, loByte_toNat v, rfl, rfl, rfl, s.hl_setPair_hl v⟩

/-! The result of a step (R26) -/

/-! The instructions that are alone in having their reading. -/

theorem asm_eq_hlt_iff (i : Instr) : i.asm = .hlt ↔ i = .hlt := by cases i <;> simp [Instr.asm]
theorem asm_eq_ei_iff (i : Instr) : i.asm = .ei ↔ i = .ei := by cases i <;> simp [Instr.asm]
theorem asm_eq_di_iff (i : Instr) : i.asm = .di ↔ i = .di := by cases i <;> simp [Instr.asm]
theorem asm_eq_popPSW_iff (i : Instr) : i.asm = .pop .psw ↔ i = .popPSW := by cases i <;> simp [Instr.asm]
theorem asm_eq_pushPSW_iff (i : Instr) : i.asm = .push .psw ↔ i = .pushPSW := by cases i <;> simp [Instr.asm]

/-- The cell of the opcode map is one without a defined case (R80). -/
def isUnimplementedForm : Form → Bool
  | .unimpl _ => true
  | _ => false

/-- The cells without a defined case are those of the seven opcodes. -/
theorem isUnimplementedForm_opcodeForm (op : Byte) :
    isUnimplementedForm (opcodeForm op) = decide (op ∈ Config.unimplOpcodes) := by
  revert op; decide +kernel

/-- What a cell builds reads as unimplemented, of its own opcode byte, exactly where the cell has no defined case. -/
theorem asm_build_unimplemented_iff {op : Byte} {f : Form} (hf : f.EncodesAs op) (b1 b2 o : Byte) :
    (f.build b1 b2).asm = .unimplemented o ↔ isUnimplementedForm f = true ∧ o = op := by
  cases f with
  | i0 i => exact iff_of_false (hf.2 o) (by simp [isUnimplementedForm])
  | i1 mk => exact iff_of_false ((hf b1).2 o) (by simp [isUnimplementedForm])
  | i2 mk => exact iff_of_false ((hf (joinBytes b2 b1)).2 o) (by simp [isUnimplementedForm])
  | unimpl i => simp [Form.build, hf.2, isUnimplementedForm, eq_comm]

/-- What a cell builds is encoded with the cell's opcode byte first. -/
theorem head?_encode_build {op : Byte} {f : Form} (hf : f.EncodesAs op) (b1 b2 : Byte) :
    (encode (f.build b1 b2)).head? = some op := by
  cases f with
  | i0 i => simp [Form.build, hf.1]
  | i1 mk => simp [Form.build, (hf b1).1]
  | i2 mk => simp [Form.build, (hf (joinBytes b2 b1)).1]
  | unimpl i => simp [Form.build, hf.1]

/-- The fetched instruction reads as unimplemented exactly for the seven opcodes, and then of the byte at PC. -/
theorem fetch_asm_unimplemented_iff (s : State) (o : Byte) :
    (fetch s).asm = .unimplemented o ↔ s.memRead s.pc ∈ Config.unimplOpcodes ∧ o = s.memRead s.pc := by
  rw [fetch, asm_build_unimplemented_iff (opcodeForm_encodesAs _), isUnimplementedForm_opcodeForm, decide_eq_true_iff]

/-- HLT is fetched exactly where the byte at PC is 0x76. -/
theorem fetch_eq_hlt_iff (s : State) : fetch s = .hlt ↔ s.memRead s.pc = 0x76 := by
  have head : (encode (fetch s)).head? = some (s.memRead s.pc) := head?_encode_build (opcodeForm_encodesAs _) _ _
  constructor
  · intro h
    rw [h] at head
    exact (Option.some.inj head).symm
  · intro h
    rw [fetch, h]
    rfl

/-- An ALU operation completes with result Continue. -/
theorem aluWith_completes (op : AluOp) (x : Byte) (len : Word) (s : State) :
    ∃ t, aluWith op x len s = .next t ∧ t.result = .cont := by
  cases op <;> exact ⟨_, rfl, rfl⟩

/-- Every meaning but that of an unimplemented opcode completes: HLT with result Halted, the others with Continue. -/
theorem meaning_completes (x : Asm) (s : State) (hx : ∀ o, x ≠ .unimplemented o) :
    ∃ t, meaning x s = .next t ∧ t.result = if x = .hlt then .halted else .cont := by
  cases x with
  | unimplemented o => exact absurd rfl (hx o)
  | alu op src => exact aluWith_completes op _ 1 s
  | aluI op d8 => exact aluWith_completes op d8 2 s
  | jcc cond a16 => simp only [meaning, jumpIf]; split <;> exact ⟨_, rfl, rfl⟩
  | ccc cond a16 => simp only [meaning, callIf]; split <;> exact ⟨_, rfl, rfl⟩
  | rcc cond => simp only [meaning, returnIf]; split <;> exact ⟨_, rfl, rfl⟩
  | _ => exact ⟨_, rfl, rfl⟩

/-- Settles O41: the opcode byte says which instruction is fetched (`fetch_asm_unimplemented_iff`, `fetch_eq_hlt_iff`), and that which
result its meaning ends with. -/
theorem stepResultIsGivenByOpcode : Obligations.StepResultIsGivenByOpcode := by
  intro s
  have hstep : step s = meaning (fetch s).asm s := exec_eq_meaning _ s
  constructor
  · intro hop
    rw [hstep, (fetch_asm_unimplemented_iff s _).2 ⟨hop, rfl⟩]
    rfl
  · intro hop
    have defined (o : Byte) : (fetch s).asm ≠ .unimplemented o := fun h =>
      hop ((fetch_asm_unimplemented_iff s o).1 h).1
    obtain ⟨t, ht, hresult⟩ := meaning_completes (fetch s).asm s defined
    simp only [asm_eq_hlt_iff, fetch_eq_hlt_iff] at hresult
    exact ⟨t, hstep.trans ht, by rw [hstep, ht, stepResult, hresult]⟩

/-! AC and INTE: who writes them, and that no instruction reads them but PUSH PSW (R19, R20) -/

/-- The state with other values of the two bits that no instruction tests. -/
def State.withUnread (s : State) (inte ac : Bool) : State :=
  { s with inte := inte, flags := { s.flags with ac := ac } }

/-- INTE after an instruction, from INTE before it (R20). -/
def inteAfter (x : Asm) (inte : Bool) : Bool :=
  if x = .ei then true else if x = .di then false else inte

/-- AC after an instruction that runs in `s`, from AC before it (R19). -/
def acAfter (x : Asm) (s : State) (ac : Bool) : Bool :=
  if isLogical x then false else if x = .pop .psw then (s.memRead s.sp).getLsbD 4 else ac

/-- The next state of an outcome, changed by a function. -/
def mapNext (f : State → State) : Out → Out
  | .next s => .next (f s)
  | .fault r => .fault r
  | .refused r => .refused r

theorem State.withUnread_self (s : State) : s.withUnread s.inte s.flags.ac = s := rfl

/-! Each access to the state reads neither bit, and each update leaves them where they are. -/

theorem State.setReg_withUnread (s : State) (r : Reg) (v : Byte) (inte ac : Bool) :
    (s.withUnread inte ac).setReg r v = (s.setReg r v).withUnread inte ac := by
  cases r <;> rfl

theorem State.reg_withUnread (s : State) (r : Reg) (inte ac : Bool) : (s.withUnread inte ac).reg r = s.reg r := by
  cases r <;> rfl

theorem State.readOperand_withUnread (s : State) (o : Operand) (inte ac : Bool) :
    (s.withUnread inte ac).readOperand o = s.readOperand o := by
  cases o with
  | r reg => exact s.reg_withUnread reg inte ac
  | m => rfl

theorem State.writeOperand_withUnread (s : State) (o : Operand) (v : Byte) (inte ac : Bool) :
    (s.withUnread inte ac).writeOperand o v = (s.writeOperand o v).withUnread inte ac := by
  cases o with
  | r reg => exact s.setReg_withUnread reg v inte ac
  | m => rfl

/-- A pair that is not PSW reads neither bit. -/
theorem State.pair_withUnread (s : State) {rp : PairName} (h : rp.notPSW = true) (inte ac : Bool) :
    (s.withUnread inte ac).pair rp = s.pair rp := by
  cases rp with
  | psw => cases h
  | _ => rfl

/-- A pair that is not PSW holds neither bit. -/
theorem State.setPair_withUnread (s : State) {rp : PairName} (h : rp.notPSW = true) (v : Word) (inte ac : Bool) :
    (s.withUnread inte ac).setPair rp v = (s.setPair rp v).withUnread inte ac := by
  cases rp with
  | psw => cases h
  | _ => rfl

theorem Flags.cond_withUnread (s : State) (cond : Cond) (inte ac : Bool) :
    (s.withUnread inte ac).flags.cond cond = s.flags.cond cond := by
  cases cond <;> rfl

/-- LDAX and STAX name no pair but BC and DE. -/
theorem notPSW_of_isBCorDE {rp : PairName} (h : rp.isBCorDE = true) : rp.notPSW = true := by
  cases rp with
  | psw => cases h
  | _ => rfl

/-- The AC that POP PSW takes is bit 4 of the byte at SP (R13, R19). -/
theorem ac_unpackPSW_top16 (s : State) : (unpackPSW (loByte s.top16)).ac = (s.memRead s.sp).getLsbD 4 := by
  rw [State.top16, loByte_joinBytes]
  rfl

/-- An instruction run with another INTE and another AC does the same, and leaves in the two bits what its writing rule makes of the
values it was given. PUSH PSW alone reads one of them: it stores AC. -/
theorem meaning_withUnread {x : Asm} (hx : x.wellFormed = true) (s : State) (inte ac : Bool)
    (hpush : x = .push .psw → ac = s.flags.ac) :
    meaning x (s.withUnread inte ac) = mapNext (·.withUnread (inteAfter x inte) (acAfter x s ac)) (meaning x s) := by
  cases x with
  | mov dst src => simp only [meaning, move, State.readOperand_withUnread, State.writeOperand_withUnread]; rfl
  | mvi dst d8 => simp only [meaning, moveImmediate, State.writeOperand_withUnread]; rfl
  | lxi rp d16 => simp only [meaning, loadPairImmediate, s.setPair_withUnread hx]; rfl
  | ldax rp => simp only [meaning, loadIndirect, s.pair_withUnread (notPSW_of_isBCorDE hx)]; rfl
  | stax rp => simp only [meaning, storeIndirect, s.pair_withUnread (notPSW_of_isBCorDE hx)]; rfl
  | alu op src => simp only [meaning, State.readOperand_withUnread]; cases op <;> rfl
  | aluI op d8 => cases op <;> rfl
  | inr dst =>
    simp only [meaning, increment, State.readOperand_withUnread, State.writeOperand_withUnread]; rfl
  | dcr dst =>
    simp only [meaning, decrement, State.readOperand_withUnread, State.writeOperand_withUnread]; rfl
  | inx rp => simp only [meaning, incrementPair, s.pair_withUnread hx, s.setPair_withUnread hx]; rfl
  | dcx rp => simp only [meaning, decrementPair, s.pair_withUnread hx, s.setPair_withUnread hx]; rfl
  | dad rp => simp only [meaning, addPairToHL, s.pair_withUnread hx]; rfl
  | jcc cond a16 => simp only [meaning, jumpIf, Flags.cond_withUnread]; split <;> rfl
  | ccc cond a16 => simp only [meaning, callIf, Flags.cond_withUnread]; split <;> rfl
  | rcc cond => simp only [meaning, returnIf, Flags.cond_withUnread]; split <;> rfl
  | push rp =>
    cases rp with
    | psw => rw [hpush rfl]; rfl
    | _ => rfl
  | pop rp =>
    cases rp with
    | psw =>
      have popped : acAfter (.pop .psw) s ac = (unpackPSW (loByte s.top16)).ac := (ac_unpackPSW_top16 s).symm
      rw [popped]
      rfl
    | _ => rfl
  | _ => rfl

/-- `meaning_withUnread` for an instruction that completes. -/
theorem exec_withUnread {i : Instr} {s t : State} (h : exec i s = .next t) (inte ac : Bool)
    (hpush : i = .pushPSW → ac = s.flags.ac) :
    exec i (s.withUnread inte ac) = .next (t.withUnread (inteAfter i.asm inte) (acAfter i.asm s ac)) := by
  rw [exec_eq_meaning] at h ⊢
  rw [meaning_withUnread (asm_wellFormed i) s inte ac (fun e => hpush ((asm_eq_pushPSW_iff i).1 e)), h, mapNext]

/-- An instruction that completes leaves INTE and AC as its writing rules say: it is its own run with the two bits as they are. -/
theorem exec_unread {i : Instr} {s t : State} (h : exec i s = .next t) :
    t.inte = inteAfter i.asm s.inte ∧ t.flags.ac = acAfter i.asm s s.flags.ac := by
  have same := exec_withUnread h s.inte s.flags.ac fun _ => rfl
  rw [State.withUnread_self, h] at same
  have ht := Host.Outcome.next.inj same
  exact ⟨congrArg State.inte ht, congrArg (·.flags.ac) ht⟩

/-- The rule of R20 by the instruction's own name. -/
theorem inteAfter_asm (i : Instr) (inte : Bool) :
    inteAfter i.asm inte = if i = .ei then true else if i = .di then false else inte := by
  simp only [inteAfter, asm_eq_ei_iff, asm_eq_di_iff]

/-- The rule of R19 by the instruction's own name. -/
theorem acAfter_asm (i : Instr) (s : State) (ac : Bool) :
    acAfter i.asm s ac =
      if isLogical i.asm then false else if i = .popPSW then (s.memRead s.sp).getLsbD 4 else ac := by
  simp only [acAfter, asm_eq_popPSW_iff]

/-- The interrupt operation keeps every flag (R258). -/
theorem interrupt_flags {n : Nat} {s t : State} (h : interrupt n s = .next t) : t.flags = s.flags := by
  by_cases hn : n < Config.vectorCount
  · cases hi : s.inte with
    | true => rw [interrupt_taken hn hi] at h; cases h; rfl
    | false => rw [interrupt_ignored hn hi] at h; cases h; rfl
  · rw [interrupt_invalid s hn] at h; cases h

/-- Where INTE is false the interrupt operation accesses no memory (R257). -/
theorem interruptTransactions_masked (n : Nat) {s : State} (h : s.inte = false) : interruptTransactions n s = [] := by
  simp [interruptTransactions, h]

/-- Settles O46: both clauses about instructions are `exec_withUnread` with INTE as it is. -/
theorem auxiliaryCarryWriters : Obligations.AuxiliaryCarryWriters := by
  refine ⟨fun i s t h => (exec_unread h).2.trans (acAfter_asm i s _), fun i s t b hi h => ?other, fun s => rfl,
    fun n s t h => interrupt_flags h⟩
  obtain ⟨hinte, hac⟩ := exec_unread h
  have rule : acAfter i.asm s b = if isLogical i.asm then false else if i = .popPSW then t.flags.ac else b := by
    rw [hac, acAfter_asm, acAfter_asm]
    split_ifs <;> rfl
  have other := exec_withUnread h s.inte b fun e => absurd e hi
  rwa [← hinte, rule] at other

/-- Settles O47: both clauses about instructions are `exec_withUnread` with AC as it is. -/
theorem interruptEnableWritersAndReaders : Obligations.InterruptEnableWritersAndReaders := by
  have inRange {n : Nat} (hn : n ≤ 7) : n < Config.vectorCount := Nat.lt_succ_of_le hn
  refine ⟨fun i s t h => (exec_unread h).1.trans (inteAfter_asm i _), fun i s t b h => ?other, fun n s hn hi => ?taken,
    fun n s hn hi => ⟨interrupt_ignored (inRange hn) hi, interruptTransactions_masked n hi⟩, fun s => rfl⟩
  case other =>
    have other := exec_withUnread h b s.flags.ac fun _ => rfl
    rwa [← (exec_unread h).2, inteAfter_asm] at other
  case taken => exact ⟨_, interrupt_taken (inRange hn) hi, vectorAddress_toNat (inRange hn), rfl⟩

end Sys2Proof.Machine
end

section
/-! Proofs about memory access (spec/20_memory.md R42 to R52). One rule per access: a word read as a number, the bytes that a word write and a
push store and leave alone, and the word read back. The byte stored last stands at another address than the first, for every address
(`addr_ne_succ`, `push_addrs_ne`), so neither write hides the other where the address wraps. -/

namespace Sys2Proof.Machine

open Sys2Proof.Certificates

/-! Word accesses (R42, R43) -/

/-- A word is read little-endian (R42, R44). -/
theorem State.memRead16_toNat (s : State) (a : Word) :
    (s.memRead16 a).toNat = (s.memRead a).toNat + 256 * (s.memRead (a + 1)).toNat := by
  rw [State.memRead16, joinBytes_toNat, Nat.mul_comm, Nat.add_comm]

theorem State.memRead_memWrite16_low (s : State) (a v : Word) : (s.memWrite16 a v).memRead a = loByte v := by
  rw [State.memRead_memWrite16, if_neg (addr_ne_succ a), if_pos rfl]

theorem State.memRead_memWrite16_high (s : State) (a v : Word) : (s.memWrite16 a v).memRead (a + 1) = hiByte v := by
  rw [State.memRead_memWrite16, if_pos rfl]

theorem State.memRead_memWrite16_of_ne (s : State) {a j : Word} (v : Word) (low : j ≠ a) (high : j ≠ a + 1) :
    (s.memWrite16 a v).memRead j = s.memRead j := by
  rw [State.memRead_memWrite16, if_neg high, if_neg low]

/-- A word written at any address is read back there, at 0xFFFF too. -/
theorem State.memRead16_memWrite16 (s : State) (a v : Word) : (s.memWrite16 a v).memRead16 a = v := by
  rw [State.memRead16, State.memRead_memWrite16_high, State.memRead_memWrite16_low, joinBytes_hi_lo]

/-- Settles O9, from the rules of byte and word accesses. -/
theorem memoryAccessIsLittleEndian : Obligations.MemoryAccessIsLittleEndian := by
  refine ⟨fun s a j x => ⟨s.memRead_memWrite a j x, rfl⟩, fun s a v j => ⟨s.memRead16_toNat a, ?low, ?high,
    s.memRead16_memWrite16 a v, s.memRead_memWrite16_of_ne v, rfl⟩⟩
  case low => rw [State.memRead_memWrite16_low, loByte_toNat]
  case high => rw [State.memRead_memWrite16_high, hiByte_toNat]

/-! The stack primitives (R51, R52) -/

theorem State.memRead_push16_low (s : State) (v : Word) : (s.push16 v).memRead (s.sp - 2) = loByte v := by
  rw [State.memRead_push16, if_pos rfl]

theorem State.memRead_push16_high (s : State) (v : Word) : (s.push16 v).memRead (s.sp - 1) = hiByte v := by
  rw [State.memRead_push16, if_neg (push_addrs_ne s.sp), if_pos rfl]

theorem State.memRead_push16_of_ne (s : State) {j : Word} (v : Word) (high : j ≠ s.sp - 1) (low : j ≠ s.sp - 2) :
    (s.push16 v).memRead j = s.memRead j := by
  rw [State.memRead_push16, if_neg low, if_neg high]

/-- A pop after a push leaves SP where it was, for every SP. -/
theorem State.sp_dropTop_push16 (s : State) (v : Word) : (s.push16 v).dropTop.sp = s.sp := by
  rw [State.dropTop_sp, State.push16_sp, sub_two_add_two]

/-- Settles O10: the bytes are the rules of a push, the round trip `State.top16_push16` and `State.sp_dropTop_push16`. -/
theorem pushThenPopPrimitivesRoundTrip : Obligations.PushThenPopPrimitivesRoundTrip := fun s v _ =>
  ⟨s.memRead_push16_high v, s.memRead_push16_low v, s.memRead_push16_of_ne v, rfl, rfl, rfl, s.top16_push16 v,
    s.sp_dropTop_push16 v⟩

end Sys2Proof.Machine
end

section
/-! Proofs about decoding and encoding (spec/30_encoding.md R74 to R86). What decodes as one byte is what a one-byte cell of the opcode map
builds (`decode_eq_rest_iff`), and what faults is what reads as unimplemented (`exec_eq_unimplemented_iff`), so the two sets of R80 and R81
are read off the map; the bytes of every instruction are its field pattern; and a step is `exec` of what the bytes at PC decode to. -/

namespace Sys2Proof.Machine

open Sys2Proof.Certificates

/-! The opcodes without a defined case and the alternate encodings of NOP (R80, R81) -/

/-- Decoding takes the opcode byte alone exactly where the opcode's length is 1, and answers what the cell builds, which then looks at no
operand byte. -/
theorem decode_eq_rest_iff (op : Byte) (rest : List Byte) (i : Instr) :
    decode (op :: rest) = .ok (i, rest) ↔ opcodeLength op = 1 ∧ (opcodeForm op).build 0 0 = i := by
  rw [decode, opcodeLength]
  cases opcodeForm op with
  | i0 j => simp [Form.length, Form.build]
  | unimpl j => simp [Form.length, Form.build]
  | i1 mk => rcases rest with _ | ⟨b1, tail⟩ <;> simp [Form.length]
  | i2 mk =>
    rcases rest with _ | ⟨b1, _ | ⟨b2, tail⟩⟩
    case cons.cons =>
      have shorter : tail ≠ b1 :: b2 :: tail := ne_of_apply_ne List.length (by simp only [List.length_cons]; omega)
      simp [Form.length, shorter]
    all_goals simp [Form.length]

/-- Of an opcode without a defined case one byte is read (R80). -/
theorem length_of_isUnimplementedForm {f : Form} (h : isUnimplementedForm f = true) : f.length = 1 := by
  cases f with
  | unimpl i => rfl
  | _ => cases h

/-- Unimplemented is raised by the instructions that read as unimplemented and by no other, whatever the state. -/
theorem exec_eq_unimplemented_iff (i : Instr) (s : State) (op : Byte) :
    exec i s = .fault (.unimplemented op) ↔ i.asm = .unimplemented op := by
  rw [exec_eq_meaning]
  by_cases h : ∃ o, i.asm = .unimplemented o
  · obtain ⟨o, ho⟩ := h
    simp [ho, meaning, raiseUnimplemented]
  · have defined := not_exists.1 h
    obtain ⟨t, ht, -⟩ := meaning_completes i.asm s defined
    simp [ht, defined op]

/-- The alternate encodings of NOP are one byte long and read as NOP (R81). -/
theorem asm_build_of_mem_altNopOpcodes :
    ∀ op ∈ Config.altNopOpcodes, opcodeLength op = 1 ∧ ((opcodeForm op).build 0 0).asm = .nop := by
  decide

/-- Settles O6: both sets are those of the opcode map (`isUnimplementedForm_opcodeForm`, `asm_build_of_mem_altNopOpcodes`), and what an
instruction does is the meaning of its reading. -/
theorem unimplementedAndAlternateNopSets : Obligations.UnimplementedAndAlternateNopSets := by
  refine ⟨fun op rest => ⟨?defined, ?unimplemented⟩, fun op rest hop => ?nop⟩
  case defined =>
    rintro ⟨i, hdecode, hfault⟩
    obtain ⟨-, rfl⟩ := (decode_eq_rest_iff op rest i).1 hdecode
    have reading := (exec_eq_unimplemented_iff _ State.reset op).1 (hfault State.reset)
    have cell := ((asm_build_unimplemented_iff (opcodeForm_encodesAs op) 0 0 op).1 reading).1
    exact of_decide_eq_true ((isUnimplementedForm_opcodeForm op).symm.trans cell)
  case unimplemented =>
    intro hop
    have cell := (isUnimplementedForm_opcodeForm op).trans (decide_eq_true hop)
    have reading := (asm_build_unimplemented_iff (opcodeForm_encodesAs op) 0 0 op).2 ⟨cell, rfl⟩
    exact ⟨_, (decode_eq_rest_iff op rest _).2 ⟨length_of_isUnimplementedForm cell, rfl⟩,
      fun s => (exec_eq_unimplemented_iff _ s op).2 reading⟩
  case nop =>
    obtain ⟨oneByte, reading⟩ := asm_build_of_mem_altNopOpcodes op hop
    exact ⟨_, (decode_eq_rest_iff op rest _).2 ⟨oneByte, rfl⟩, fun s => by rw [exec_eq_meaning, reading]; rfl⟩

/-! Field patterns (R74, R75, R76, R78) -/

/-- Settles O4, row by row of the opcode map; the field of NOP, which no operand names, is the number of its encoding (R81). -/
theorem encodingFollowsFieldPatterns : Obligations.EncodingFollowsFieldPatterns := by
  refine ⟨rfl, rfl, rfl, fun i => ?_⟩
  cases i with
  | nop => exact ⟨0, rfl⟩
  | nop08 => exact ⟨1, rfl⟩
  | nop10 => exact ⟨2, rfl⟩
  | nop18 => exact ⟨3, rfl⟩
  | nop20 => exact ⟨4, rfl⟩
  | nop28 => exact ⟨5, rfl⟩
  | nop30 => exact ⟨6, rfl⟩
  | nop38 => exact ⟨7, rfl⟩
  | _ => rfl

/-! The step (R57, R77, R86) -/

/-- The bytes that the opcode's length takes decode to what the opcode's cell builds, and none is left. -/
theorem decode_take_opcodeLength (op b1 b2 : Byte) :
    decode ([op, b1, b2].take (opcodeLength op)) = .ok ((opcodeForm op).build b1 b2, []) := by
  rw [opcodeLength]
  cases h : opcodeForm op <;> simp [Form.length, Form.build, decode, h]

/-- A fetch reads the first bytes from PC, as many as the opcode's length says. -/
theorem fetchBytes_eq_take (s : State) :
    fetchBytes s = [s.memRead s.pc, s.memRead (s.pc + 1), s.memRead (s.pc + 2)].take (opcodeLength (s.memRead s.pc)) := by
  rw [fetchBytes, opcodeLength]
  cases opcodeForm (s.memRead s.pc) <;> simp [Form.length, List.range_succ]

/-- Settles O40: what the bytes at PC decode to is what the step fetches (`decode_fetch`), and the bytes it reads are the instruction's
own (`decode_take_opcodeLength`). -/
theorem stepRunsDecodedInstruction : Obligations.StepRunsDecodedInstruction := by
  refine ⟨fun s i rest hdecode => ?decoded, fun s => ⟨?own, rfl⟩⟩
  case decoded =>
    obtain ⟨rest', hfetch⟩ := decode_fetch s
    obtain ⟨same, -⟩ := Prod.mk.inj (Except.ok.inj (hfetch.symm.trans hdecode))
    rw [step, same]
  case own =>
    rw [fetchBytes_eq_take]
    exact decode_take_opcodeLength _ _ _

end Sys2Proof.Machine
end

section
/-! Proofs about the ALU and its flags and about the jumps (spec/40_alu_and_flag_rules.md R100 to R111; the families of R150 to R171, R180 to
R188, R200, R201 and R207). An ALU instruction in any of its forms runs the shared operation of its number on its operand (`aluForm_sound`);
each family of these is one ALU function, whose value and flags Laws/Flags.lean gives (`aluWith_add_or_adc`, `aluWith_sub_or_sbb`,
`aluWith_logical`); and Z, S and P are those of a byte where they are its zero test, its bit 7 and its parity (`zspOf_of_eq`). -/

namespace Sys2Proof.Machine

open Sys2Proof.Certificates

/-! Z, S and P of a result (R100, R101) -/

theorem zspOf_of_eq {f : Flags} {r : Byte} (hz : f.z = (r == 0)) (hs : f.s = r.getLsbD 7) (hp : f.p = parity r) : ZspOf f r := by
  refine ⟨?_, ?_, ?_⟩
  · rw [hz, beq_iff_eq]
  · rw [hs, getLsbD_seven, decide_eq_true_iff]
  · rw [hp, parity_eq_countP, decide_eq_true_iff]

theorem zspOf_add8 (a b : Byte) (cin : Bool) (f : Flags) : ZspOf (add8 a b cin f).2 (add8 a b cin f).1 :=
  zspOf_of_eq rfl rfl rfl

theorem zspOf_sub8 (a b : Byte) (cin : Bool) (f : Flags) : ZspOf (sub8 a b cin f).2 (sub8 a b cin f).1 :=
  zspOf_of_eq rfl rfl rfl

theorem zspOf_logic8 (r : Byte) (f : Flags) : ZspOf (logic8 r f).2 r := by
  rw [logic8_flags]
  exact zspOf_of_eq rfl rfl rfl

theorem zspOf_inc8 (v : Byte) (f : Flags) : ZspOf (inc8 v f).2 (v + 1) := by
  rw [inc8_eq]
  exact zspOf_of_eq rfl rfl rfl

theorem zspOf_dec8 (v : Byte) (f : Flags) : ZspOf (dec8 v f).2 (v - 1) := by
  rw [dec8_eq]
  exact zspOf_of_eq rfl rfl rfl

/-! The carry of a sum and of a difference (R102, R103) -/

theorem add8_cy_iff (a b : Byte) (cin : Bool) (f : Flags) :
    (add8 a b cin f).2.cy = true ↔ 255 < a.toNat + b.toNat + cin.toNat := by
  rw [add8_flags, decide_eq_true_iff]

theorem sub8_cy_iff (a b : Byte) (cin : Bool) (f : Flags) :
    (sub8 a b cin f).2.cy = true ↔ a.toNat < b.toNat + cin.toNat := by
  rw [sub8_flags, decide_eq_true_iff]

/-- Without a borrow-in the value Sub8 returns is the difference of the bytes. -/
theorem sub8_false (a b : Byte) (f : Flags) : (sub8 a b false f).1 = a - b := by
  apply BitVec.eq_of_toNat_eq
  have := b.isLt
  rw [sub8_toNat, BitVec.toNat_sub, Bool.toNat_false]
  omega

/-! The ALU instructions in their three forms (R78) -/

/-- An instruction of an ALU form has the bytes the form says, and runs the operation of its number on its operand and with its length. -/
theorem aluForm_sound {i : Instr} {s : State} {op : AluOp} {x : Byte} {bytes : List Byte}
    (h : aluForm i s = some (op, x, bytes)) :
    encode i = bytes ∧ exec i s = aluWith op x (BitVec.ofNat 16 bytes.length) s := by
  obtain ⟨-, -, -, pattern⟩ := encodingFollowsFieldPatterns
  have hbytes := pattern i
  rw [exec_eq_meaning]
  unfold aluForm at h
  split at h
  case h_1 hasm => cases h; rw [hasm] at hbytes ⊢; exact ⟨hbytes, rfl⟩
  case h_2 hasm => cases h; rw [hasm] at hbytes ⊢; exact ⟨hbytes, rfl⟩
  case h_3 hasm => cases h; rw [hasm] at hbytes ⊢; exact ⟨hbytes, rfl⟩
  case h_4 => cases h

/-- ADD and ADC are Add8 with the carry-in of the operation (R150, R153). -/
theorem aluWith_add_or_adc {op : AluOp} (hop : op = .add ∨ op = .adc) (x : Byte) (len : Word) (s : State) :
    ∃ cin : Bool, cin.toNat = carryIn op s.flags ∧ aluWith op x len s = advance len (s.withAlu (add8 s.a x cin s.flags)) := by
  obtain rfl | rfl := hop
  · exact ⟨false, rfl, rfl⟩
  · exact ⟨s.flags.cy, rfl, rfl⟩

/-- SUB and SBB are Sub8 with the borrow-in of the operation (R156, R159). -/
theorem aluWith_sub_or_sbb {op : AluOp} (hop : op = .sub ∨ op = .sbb) (x : Byte) (len : Word) (s : State) :
    ∃ cin : Bool, cin.toNat = carryIn op s.flags ∧ aluWith op x len s = advance len (s.withAlu (sub8 s.a x cin s.flags)) := by
  obtain rfl | rfl := hop
  · exact ⟨false, rfl, rfl⟩
  · exact ⟨s.flags.cy, rfl, rfl⟩

/-- ANA, XRA and ORA are Logic8 of the byte that holds the operation's result in every bit (R180, R183, R186). -/
theorem aluWith_logical {op : AluOp} (hop : op = .ana ∨ op = .xra ∨ op = .ora) (x : Byte) (len : Word) (s : State) :
    ∃ r : Byte, (∀ k, r.getLsbD k = logicBit op (s.a.getLsbD k) (x.getLsbD k)) ∧
      aluWith op x len s = advance len (s.withAlu (logic8 r s.flags)) := by
  obtain rfl | rfl | rfl := hop
  · exact ⟨s.a &&& x, fun _ => BitVec.getLsbD_and, rfl⟩
  · exact ⟨s.a ^^^ x, fun _ => BitVec.getLsbD_xor, rfl⟩
  · exact ⟨s.a ||| x, fun _ => BitVec.getLsbD_or, rfl⟩

/-- Settles O18: every form is Add8 with the carry-in of its operation. -/
theorem addFamilyAddsWithCarryOut : Obligations.AddFamilyAddsWithCarryOut := by
  intro i s op x bytes hform hop
  obtain ⟨hbytes, hexec⟩ := aluForm_sound hform
  obtain ⟨cin, hcin, halu⟩ := aluWith_add_or_adc hop x (BitVec.ofNat 16 bytes.length) s
  rw [← hcin]
  exact ⟨hbytes, _, hexec.trans halu, add8_toNat s.a x cin s.flags, add8_cy_iff .., zspOf_add8 .., rfl, rfl⟩

/-- Settles O19: every form is Sub8 with the borrow-in of its operation. -/
theorem subFamilySubtractsWithBorrow : Obligations.SubFamilySubtractsWithBorrow := by
  intro i s op x bytes hform hop
  obtain ⟨hbytes, hexec⟩ := aluForm_sound hform
  obtain ⟨cin, hcin, halu⟩ := aluWith_sub_or_sbb hop x (BitVec.ofNat 16 bytes.length) s
  rw [← hcin]
  exact ⟨hbytes, _, hexec.trans halu, sub8_toNat s.a x cin s.flags, sub8_cy_iff .., zspOf_sub8 .., rfl, rfl⟩

/-- Settles O20: a compare takes the flags of the Sub8 that SUB runs, whose value is the difference and is zero where the two are equal. -/
theorem compareAgreesWithSubtract : Obligations.CompareAgreesWithSubtract := by
  intro i s x bytes hform
  obtain ⟨hbytes, hexec⟩ := aluForm_sound hform
  have hzsp := zspOf_sub8 s.a x false s.flags
  rw [sub8_false] at hzsp
  have hzero : (sub8 s.a x false s.flags).2.z = true ↔ s.a = x := hzsp.1.trans sub_eq_zero
  exact ⟨hbytes, _, hexec, hzero, sub8_cy_iff .., hzsp, rfl, rfl, fun j jbytes hsub => ⟨_, (aluForm_sound hsub).2, rfl⟩⟩

/-- Settles O26: every form is Logic8 of the bitwise result. -/
theorem logicalFamilyClearsCarries : Obligations.LogicalFamilyClearsCarries := by
  intro i s op x bytes hform hop
  obtain ⟨hbytes, hexec⟩ := aluForm_sound hform
  obtain ⟨r, hbits, halu⟩ := aluWith_logical hop x (BitVec.ofNat 16 bytes.length) s
  exact ⟨hbytes, _, hexec.trans halu, fun k _ => hbits k, zspOf_logic8 .., rfl, rfl, rfl⟩

/-! INR and DCR (R106) -/

theorem byte_sub_one_toNat (v : Byte) : (v - 1).toNat = (v.toNat + 255) % 256 := by
  rw [BitVec.toNat_sub, Nat.add_comm]; rfl

/-- A register is read whatever the flags, PC and the result are. -/
theorem State.reg_of_flags_pc_result (s : State) (r : Reg) (f : Flags) (pc : Word) (res : StepResult) :
    ({ s with flags := f, pc := pc, result := res } : State).reg r = s.reg r := by
  cases r <;> rfl

/-- An instruction that ends with the value of an ALU function in a register and with its flags, CY and AC kept: what its next state holds. -/
theorem advance_setReg_effect {s : State} (dst : Reg) (r : Byte × Flags) {n : Nat}
    (hn : r.1.toNat = n) (hzsp : ZspOf r.2 r.1) (hcy : r.2.cy = s.flags.cy) (hac : r.2.ac = s.flags.ac) :
    ∃ t, advance 1 { s.setReg dst r.1 with flags := r.2 } = .next t ∧ (t.reg dst).toNat = n ∧ ZspOf t.flags (t.reg dst) ∧
      t.flags.cy = s.flags.cy ∧ t.flags.ac = s.flags.ac ∧
      t = { s.setReg dst (t.reg dst) with flags := t.flags, pc := s.pc + 1, result := .cont } := by
  refine ⟨{ s.setReg dst r.1 with flags := r.2, pc := s.pc + 1, result := .cont }, ?_, ?_⟩
  · rw [advance_eq, State.setReg_pc]
  · rw [State.reg_of_flags_pc_result, State.reg_setReg, if_pos rfl]
    exact ⟨hn, hzsp, hcy, hac, rfl⟩

/-- The same of the byte at HL, every other byte being read as before. -/
theorem advance_memWrite_effect {s : State} (r : Byte × Flags) {n : Nat}
    (hn : r.1.toNat = n) (hzsp : ZspOf r.2 r.1) (hcy : r.2.cy = s.flags.cy) (hac : r.2.ac = s.flags.ac) :
    ∃ t, advance 1 { s.memWrite s.hl r.1 with flags := r.2 } = .next t ∧ (t.memRead s.hl).toNat = n ∧
      (∀ a, a ≠ s.hl → t.memRead a = s.memRead a) ∧ ZspOf t.flags (t.memRead s.hl) ∧
      t.flags.cy = s.flags.cy ∧ t.flags.ac = s.flags.ac ∧
      t = { s with mem := t.mem, flags := t.flags, pc := s.pc + 1, result := .cont } := by
  refine ⟨{ s.memWrite s.hl r.1 with flags := r.2, pc := s.pc + 1, result := .cont }, rfl, ?_⟩
  have hread (a : Word) : State.memRead { s.memWrite s.hl r.1 with flags := r.2, pc := s.pc + 1, result := .cont } a =
      if a = s.hl then r.1 else s.memRead a := s.memRead_memWrite s.hl a r.1
  rw [hread, if_pos rfl]
  exact ⟨hn, fun a ha => (hread a).trans (if_neg ha), hzsp, hcy, hac, rfl⟩

/-- Settles O21: Inc8 and Dec8 of the register. -/
theorem incrementDecrementRegister : Obligations.IncrementDecrementRegister := by
  obtain ⟨-, -, -, pattern⟩ := encodingFollowsFieldPatterns
  refine fun i dst s => ⟨fun hasm => ?inr, fun hasm => ?dcr⟩
  all_goals
    have hbytes := pattern i
    rw [hasm] at hbytes
    rw [exec_eq_meaning, hasm]
  case inr => exact ⟨hbytes, advance_setReg_effect dst (inc8 (s.reg dst) s.flags) (BitVec.toNat_add _ 1) (zspOf_inc8 ..) rfl rfl⟩
  case dcr => exact ⟨hbytes, advance_setReg_effect dst (dec8 (s.reg dst) s.flags) (byte_sub_one_toNat _) (zspOf_dec8 ..) rfl rfl⟩

/-- Settles O22: Inc8 and Dec8 of the byte at HL. -/
theorem incrementDecrementMemory : Obligations.IncrementDecrementMemory := by
  rintro i up s (⟨rfl, rfl⟩ | ⟨rfl, rfl⟩)
  · exact ⟨rfl, advance_memWrite_effect (inc8 (s.memRead s.hl) s.flags) (BitVec.toNat_add _ 1) (zspOf_inc8 ..) rfl rfl⟩
  · exact ⟨rfl, advance_memWrite_effect (dec8 (s.memRead s.hl) s.flags) (byte_sub_one_toNat _) (zspOf_dec8 ..) rfl rfl⟩

/-! DAD (R108) -/

/-- Settles O24: the two halves of the word Add16 returns are that word. -/
theorem dadAddsPairToHL : Obligations.DadAddsPairToHL := by
  intro i rp s hasm
  obtain ⟨-, -, -, pattern⟩ := encodingFollowsFieldPatterns
  have hbytes := pattern i
  rw [hasm] at hbytes
  rw [exec_eq_meaning, hasm]
  have hsum := add16_toNat s.hl (s.pair rp) s.flags
  rw [← joinBytes_hi_lo (add16 s.hl (s.pair rp) s.flags).1, joinBytes_toNat] at hsum
  exact ⟨hbytes, _, rfl, hsum, decide_eq_true_iff, rfl⟩

/-! Jumps (R111) -/

/-- The conditions are those of the table of R75. -/
theorem Flags.cond_eq_condTrue (f : Flags) (cond : Cond) : f.cond cond = condTrue f cond := by
  cases cond <;> simp [Flags.cond, condTrue]

/-- What a conditional jump answers. -/
theorem jumpIf_eq (cond : Cond) (a16 : Word) (s : State) :
    jumpIf cond a16 s = .next { s with pc := if condTrue s.flags cond then a16 else s.pc + 3, result := .cont } := by
  rw [jumpIf, Flags.cond_eq_condTrue]
  split <;> rfl

/-- Settles O30: a conditional jump tests the flag its row of the table names (`Flags.cond_eq_condTrue`). -/
theorem jumpsReachTheirTarget : Obligations.JumpsReachTheirTarget := by
  refine ⟨fun a16 s => ⟨rfl, rfl⟩, fun s => ⟨rfl, rfl⟩, fun i cond a16 s hasm => ?conditional⟩
  case conditional =>
    obtain ⟨-, -, -, pattern⟩ := encodingFollowsFieldPatterns
    have hbytes := pattern i
    rw [hasm] at hbytes
    rw [exec_eq_meaning, hasm]
    exact ⟨hbytes, jumpIf_eq cond a16 s⟩

end Sys2Proof.Machine
end

section
/-! Proofs about data transfer (spec/41_data_transfer.md R130 to R142). An instruction runs the meaning of its assembler form
(`exec_eq_meaning`) and has the bytes of its field pattern; the loads write a register or the two bytes of a pair
(`advance_setReg`, `State.setPair_hl_joinBytes` and its like), and the stores are one byte write or one word write, whose reads
Laws/Memory.lean and the rules of memory access give. -/

namespace Sys2Proof.Machine

open Sys2Proof.Certificates

/-! Loads (R130, R131, R133, R135, R136, R138, R140) -/

/-- An instruction that ends with a value in a register: a register write leaves PC, so PC moves by the length. -/
theorem advance_setReg (len : Word) (s : State) (r : Reg) (v : Byte) :
    advance len (s.setReg r v) = .next { s.setReg r v with pc := s.pc + len, result := .cont } := by
  rw [advance_eq, State.setReg_pc]

/-! A pair takes the high byte of a word in its first register and the low byte in its second (R12). -/

theorem State.setPair_bc_joinBytes (s : State) (hi lo : Byte) : s.setPair .bc (joinBytes hi lo) = { s with b := hi, c := lo } := by
  simp only [State.setPair, hiByte_joinBytes, loByte_joinBytes]

theorem State.setPair_de_joinBytes (s : State) (hi lo : Byte) : s.setPair .de (joinBytes hi lo) = { s with d := hi, e := lo } := by
  simp only [State.setPair, hiByte_joinBytes, loByte_joinBytes]

theorem State.setPair_hl_joinBytes (s : State) (hi lo : Byte) : s.setPair .hl (joinBytes hi lo) = { s with h := hi, l := lo } := by
  simp only [State.setPair, hiByte_joinBytes, loByte_joinBytes]

/-- Settles O12: a MOV to a register writes what the resolver reads at the source in the old state. -/
theorem movIntoRegister : Obligations.MovIntoRegister := by
  intro i dst src s hasm
  obtain ⟨-, -, -, pattern⟩ := encodingFollowsFieldPatterns
  have hbytes := pattern i
  rw [hasm] at hbytes
  have hexec : exec i s = advance 1 (s.setReg dst (s.readOperand src)) := by rw [exec_eq_meaning, hasm]; rfl
  exact ⟨hbytes, hexec.trans (advance_setReg 1 s dst (s.readOperand src))⟩

/-- Settles O14: LXI is the write of a pair, whose two registers take the two bytes of the immediate. -/
theorem immediateLoads : Obligations.ImmediateLoads := by
  refine ⟨fun i dst d8 s hasm => ?mvi, fun b1 b2 s => ⟨rfl, rfl, rfl, rfl, ?bc, ?de, ?hl, rfl⟩⟩
  case mvi =>
    obtain ⟨-, -, -, pattern⟩ := encodingFollowsFieldPatterns
    have hbytes := pattern i
    rw [hasm] at hbytes
    have hexec : exec i s = advance 2 (s.setReg dst d8) := by rw [exec_eq_meaning, hasm]; rfl
    exact ⟨hbytes, hexec.trans (advance_setReg 2 s dst d8)⟩
  case bc => exact congrArg (advance 3) (s.setPair_bc_joinBytes b2 b1)
  case de => exact congrArg (advance 3) (s.setPair_de_joinBytes b2 b1)
  case hl => exact congrArg (advance 3) (s.setPair_hl_joinBytes b2 b1)

/-- Settles O15: LHLD writes to HL the word at the address, whose high byte is the one at the address after it. -/
theorem directAndIndirectLoads : Obligations.DirectAndIndirectLoads := by
  refine fun a16 s => ⟨rfl, rfl, rfl, ?lhld, rfl, rfl, rfl, rfl⟩
  case lhld => exact congrArg (advance 3) (s.setPair_hl_joinBytes (s.memRead (a16 + 1)) (s.memRead a16))

/-! Stores (R132, R134, R137, R139, R141) -/

/-- An instruction that stores one byte has the bytes its form says, and writes the form's value at the form's address. -/
theorem oneByteStore_sound {i : Instr} {s : State} {addr : Word} {v : Byte} {bytes : List Byte}
    (h : oneByteStore i s = some (addr, v, bytes)) :
    encode i = bytes ∧ exec i s = advance (BitVec.ofNat 16 bytes.length) (s.memWrite addr v) := by
  obtain ⟨-, -, -, pattern⟩ := encodingFollowsFieldPatterns
  have hbytes := pattern i
  rw [exec_eq_meaning]
  unfold oneByteStore at h
  split at h
  case h_1 r hasm =>
    cases h
    rw [hasm] at hbytes ⊢
    have code_m : 0b01#2 ++ Operand.m.code ++ (Operand.r r).code = 0b01110#5 ++ r.code := by cases r <;> rfl
    exact ⟨hbytes.trans (congrArg (fun op : Byte => [op]) code_m), rfl⟩
  case h_2 hasm => cases h; rw [hasm] at hbytes ⊢; exact ⟨hbytes, rfl⟩
  case h_3 hasm => cases h; rw [hasm] at hbytes ⊢; exact ⟨hbytes, rfl⟩
  case h_4 hasm => cases h; rw [hasm] at hbytes ⊢; exact ⟨hbytes, rfl⟩
  case h_5 => cases h

/-- Settles O13: every form is one byte write (`oneByteStore_sound`), which no other byte sees. -/
theorem oneByteStoresStoreOneByte : Obligations.OneByteStoresStoreOneByte := by
  intro i s addr v bytes hform
  obtain ⟨hbytes, hexec⟩ := oneByteStore_sound hform
  have stored : (s.memWrite addr v).memRead addr = v := by rw [State.memRead_memWrite, if_pos rfl]
  have others : ∀ a, a ≠ addr → (s.memWrite addr v).memRead a = s.memRead a :=
    fun a ha => by rw [State.memRead_memWrite, if_neg ha]
  exact ⟨hbytes, _, hexec, stored, others, rfl⟩

/-- Settles O16: the word written is HL, whose low byte is L and whose high byte is H. -/
theorem shldStoresBothBytes : Obligations.ShldStoresBothBytes := by
  intro a16 s
  have low : (s.memWrite16 a16 s.hl).memRead a16 = s.l :=
    (s.memRead_memWrite16_low a16 s.hl).trans (loByte_joinBytes s.h s.l)
  have high : (s.memWrite16 a16 s.hl).memRead (a16 + 1) = s.h :=
    (s.memRead_memWrite16_high a16 s.hl).trans (hiByte_joinBytes s.h s.l)
  exact ⟨rfl, _, rfl, low, high, fun a hlow hhigh => s.memRead_memWrite16_of_ne s.hl hlow hhigh, rfl⟩

/-! XCHG (R142) -/

/-- What XCHG answers. -/
theorem exec_xchg (s : State) :
    exec .xchg s = .next { s with h := s.d, l := s.e, d := s.h, e := s.l, pc := s.pc + 1, result := .cont } := rfl

/-- Settles O17: the second exchange undoes the first, and PC has moved twice. -/
theorem xchgExchangesPairs : Obligations.XchgExchangesPairs := by
  refine fun s => ⟨rfl, exec_xchg s, ?twice⟩
  case twice => simp only [execAll, exec_xchg]

end Sys2Proof.Machine
end

section
/-! Proofs about arithmetic, continued (spec/42_arithmetic.md R169, R170, R172; spec/45_stack_io_machine.md R229, R230). INX and DCX end
with the write of a pair, which leaves PC (`advance_setPair`); DAA and the NOPs have one meaning, the move of PC. -/

namespace Sys2Proof.Machine

/-! INX and DCX (R169, R170) -/

/-- A pair write leaves PC, whichever the pair. -/
theorem State.setPair_pc (s : State) (rp : PairName) (v : Word) : (s.setPair rp v).pc = s.pc := by
  cases rp <;> rfl

/-- An instruction that ends with a value in a pair: PC moves by the length. -/
theorem advance_setPair (len : Word) (s : State) (rp : PairName) (v : Word) :
    advance len (s.setPair rp v) = .next { s.setPair rp v with pc := s.pc + len, result := .cont } := by
  rw [advance_eq, State.setPair_pc]

theorem word_sub_one_toNat (v : Word) : (v - 1).toNat = (v.toNat + 65535) % 65536 := by
  rw [BitVec.toNat_sub, Nat.add_comm]; rfl

/-- Settles O23: the pair takes its value plus or minus the word 1. -/
theorem pairIncrementDecrement : Obligations.PairIncrementDecrement := by
  obtain ⟨-, -, -, pattern⟩ := encodingFollowsFieldPatterns
  refine fun i rp s => ⟨fun hasm => ?inx, fun hasm => ?dcx⟩
  all_goals
    have hbytes := pattern i
    rw [hasm] at hbytes
    rw [exec_eq_meaning, hasm]
  case inx => exact ⟨hbytes, s.pair rp + 1, BitVec.toNat_add _ 1, advance_setPair 1 s rp _⟩
  case dcx => exact ⟨hbytes, s.pair rp - 1, word_sub_one_toNat _, advance_setPair 1 s rp _⟩

/-! DAA and the NOPs (R172, R229, R230) -/

/-- Settles O25: DAA, NOP and the alternate NOPs all read as a term whose meaning is `noOperation`. -/
theorem noOperationsOnlyAdvance : Obligations.NoOperationsOnlyAdvance := by
  refine ⟨fun i s hasm => ?advances, rfl, rfl, rfl⟩
  case advances =>
    rw [exec_eq_meaning]
    obtain hdaa | hnop := hasm
    · rw [hdaa]; exact advance_eq 1 s
    · rw [hnop]; exact advance_eq 1 s

end Sys2Proof.Machine
end

section
/-! Proofs about the rotates, the complement and Carry (spec/43_logical_rotate.md R189 to R195). Laws/Alu.lean gives every bit a rotate
leaves (`rlc8_getLsbD` and its like) and its flags (`rotate_flags`); here each is one move of A, or of the nine-bit ring of CY and A. -/

namespace Sys2Proof.Machine

/-! The byte a rotate leaves (R189 to R192) -/

/-- RLC rotates the eight bits left. -/
theorem rlc8_fst (v : Byte) (f : Flags) : (rlc8 v f).1 = v.rotateLeft 1 := by
  refine BitVec.eq_of_getLsbD_eq fun k hk => (rlc8_getLsbD v f ⟨k, hk⟩).trans ?_
  cases k with
  | zero => simp
  | succ k => simp [hk, BitVec.getLsbD_eq_getElem (Nat.lt_of_succ_lt hk)]

/-- RRC rotates the eight bits right. -/
theorem rrc8_fst (v : Byte) (f : Flags) : (rrc8 v f).1 = v.rotateRight 1 := by
  refine BitVec.eq_of_getLsbD_eq fun k hk => (rrc8_getLsbD v f ⟨k, hk⟩).trans ?_
  by_cases top : k = 7
  · subst top; simp
  · have below : k < 7 := by omega
    simp [BitVec.getLsbD_rotateRight, Fin.ext_iff, top, below, Nat.add_comm]

/-- RAL leaves the low byte of the nine bits A, CY: the old Carry has come in at bit 0. -/
theorem ral8_fst (v : Byte) (f : Flags) : (ral8 v f).1 = (v ++ BitVec.ofBool f.cy).extractLsb' 0 8 := by
  refine BitVec.eq_of_getLsbD_eq fun k hk => (ral8_getLsbD v f ⟨k, hk⟩).trans ?_
  rw [BitVec.getLsbD_extractLsb', BitVec.getLsbD_append]
  cases k with
  | zero => simp
  | succ k => simp [hk]

/-- RAR leaves the high byte of the nine bits CY, A: the old Carry has come in at bit 7. -/
theorem rar8_fst (v : Byte) (f : Flags) : (rar8 v f).1 = (BitVec.ofBool f.cy ++ v).extractLsb' 1 8 := by
  refine BitVec.eq_of_getLsbD_eq fun k hk => (rar8_getLsbD v f ⟨k, hk⟩).trans ?_
  rw [BitVec.getLsbD_extractLsb', BitVec.getLsbD_append]
  by_cases top : k = 7
  · subst top; simp
  · have below : k < 7 := by omega
    simp [Fin.ext_iff, top, hk, below.not_ge, Nat.add_comm]

/-- An instruction that ends with a byte in A and new flags: PC moves by the length. -/
theorem advance_withAlu (len : Word) {r : Byte × Flags} {v : Byte} {f : Flags} (hv : r.1 = v) (hf : r.2 = f) (s : State) :
    advance len (s.withAlu r) = .next { s with a := v, flags := f, pc := s.pc + len, result := .cont } := by
  subst hv hf
  rfl

/-- Settles O27: each rotate ends with the byte of its lemma above in A and the bit shifted out in CY. -/
theorem rotatesMoveOneBit : Obligations.RotatesMoveOneBit := by
  intro s
  obtain ⟨rlc_flags, rrc_flags, ral_flags, rar_flags⟩ := rotate_flags s.a s.flags
  exact ⟨rfl, rfl, rfl, rfl, advance_withAlu 1 (rlc8_fst ..) rlc_flags s, advance_withAlu 1 (rrc8_fst ..) rrc_flags s,
    advance_withAlu 1 (ral8_fst ..) ral_flags s, advance_withAlu 1 (rar8_fst ..) rar_flags s⟩

/-! CMA, CMC and STC (R193, R194, R195) -/

/-- Settles O29: the complement of a byte is 255 minus it as a number. -/
theorem complementAndCarryInstructions : Obligations.ComplementAndCarryInstructions := by
  intro s
  have complement : (~~~s.a).toNat = 255 - s.a.toNat := BitVec.toNat_not
  exact ⟨rfl, rfl, rfl, ⟨~~~s.a, complement, advance_eq 1 _⟩, advance_eq 1 _, advance_eq 1 _⟩

end Sys2Proof.Machine
end

section
/-! Proofs about calls and returns (spec/44_control_transfer.md R202 to R206). Every form that calls is one push of the return address and a
jump (`callForm_sound`); the bytes the push stores are the rules of memory access; and a conditional call or return tests the flag its row
of the table names. -/

namespace Sys2Proof.Machine

open Sys2Proof.Certificates

/-! Calls (R202, R203, R206) -/

/-- A conditional call is the call, or the move of PC past its three bytes. -/
theorem callIf_eq (cond : Cond) (a16 : Word) (s : State) :
    callIf cond a16 s = if condTrue s.flags cond then callThrough 3 a16 s else advance 3 s := by
  rw [callIf, Flags.cond_eq_condTrue, callTo]

/-- An instruction that calls has the bytes its form says, and runs the shared call with its length and its target. -/
theorem callForm_sound {i : Instr} {s : State} {ret target : Word} {bytes : List Byte}
    (h : callForm i s = some (ret, target, bytes)) :
    encode i = bytes ∧ ret = s.pc + BitVec.ofNat 16 bytes.length ∧
      exec i s = callThrough (BitVec.ofNat 16 bytes.length) target s := by
  obtain ⟨-, -, -, pattern⟩ := encodingFollowsFieldPatterns
  have hbytes := pattern i
  rw [exec_eq_meaning]
  unfold callForm at h
  split at h
  case h_1 a16 hasm => cases h; rw [hasm] at hbytes ⊢; exact ⟨hbytes, rfl, rfl⟩
  case h_2 cond a16 hasm =>
    split at h
    case isTrue holds =>
      cases h
      rw [hasm] at hbytes ⊢
      exact ⟨hbytes, rfl, (callIf_eq cond target s).trans (if_pos holds)⟩
    case isFalse => cases h
  case h_3 n hasm => cases h; rw [hasm] at hbytes ⊢; exact ⟨hbytes, rfl, rfl⟩
  case h_4 => cases h

/-- Settles O31: every form that calls is one push (`callForm_sound`), whose two bytes are the halves of the return address. -/
theorem callsPushReturnAddress : Obligations.CallsPushReturnAddress := by
  refine ⟨fun i s ret target bytes hform => ?taken, fun i cond a16 s hasm fails => ?notTaken⟩
  case taken =>
    obtain ⟨hbytes, hret, hexec⟩ := callForm_sound hform
    rw [callThrough_eq, ← hret] at hexec
    have high : ((s.push16 ret).memRead (s.sp - 1)).toNat = ret.toNat / 256 := by
      rw [State.memRead_push16_high, hiByte_toNat]
    have low : ((s.push16 ret).memRead (s.sp - 2)).toNat = ret.toNat % 256 := by
      rw [State.memRead_push16_low, loByte_toNat]
    exact ⟨hbytes, hret, _, hexec, high, low, fun a => s.memRead_push16_of_ne ret, rfl⟩
  case notTaken =>
    obtain ⟨-, -, -, pattern⟩ := encodingFollowsFieldPatterns
    have hbytes := pattern i
    rw [hasm] at hbytes
    rw [exec_eq_meaning, hasm]
    exact ⟨hbytes, (callIf_eq cond a16 s).trans (if_neg (Bool.eq_false_iff.1 fails))⟩

/-! Returns (R204, R205) -/

/-- A conditional return is the return, or the move of PC past its one byte. -/
theorem returnIf_eq (cond : Cond) (s : State) :
    returnIf cond s = if condTrue s.flags cond then returnFromCall s else advance 1 s := by
  rw [returnIf, Flags.cond_eq_condTrue]

/-- Settles O32: both forms run the shared return (`returnFromCall_eq`), the conditional one where its condition holds
(`returnIf_eq`). -/
theorem returnsPopProgramCounter : Obligations.ReturnsPopProgramCounter := by
  refine ⟨fun s => ⟨rfl, returnFromCall_eq s⟩, fun i cond s hasm => ?conditional⟩
  case conditional =>
    obtain ⟨-, -, -, pattern⟩ := encodingFollowsFieldPatterns
    have hbytes := pattern i
    rw [hasm] at hbytes
    rw [exec_eq_meaning, hasm]
    refine ⟨hbytes, fun holds => ?taken, fun fails => ?notTaken⟩
    case taken => exact ((returnIf_eq cond s).trans (if_pos holds)).trans (returnFromCall_eq s)
    case notTaken => exact (returnIf_eq cond s).trans (if_neg (Bool.eq_false_iff.1 fails))

end Sys2Proof.Machine
end

section
/-! Proofs about the stack and machine control (spec/45_stack_io_machine.md R220 to R228, R231 to R233). PUSH is one push of the pair,
whose halves are the two bytes the statement names (`hiByte_pair`, `loByte_pair`); POP is one write of the pair; and that XTHL run twice
restores HL and memory follows from what one XTHL does (`exec_xthl`), used from each of the two states. -/

namespace Sys2Proof.Machine

open Sys2Proof.Certificates

/-! PUSH (R220, R221) -/

theorem State.hiByte_pair (s : State) (rp : PairName) : hiByte (s.pair rp) = pushedHigh s rp := by
  cases rp with
  | sp => rfl
  | _ => exact hiByte_joinBytes _ _

theorem State.loByte_pair (s : State) (rp : PairName) : loByte (s.pair rp) = pushedLow s rp := by
  cases rp with
  | sp => rfl
  | _ => exact loByte_joinBytes _ _

/-- Settles O34: the bytes are those of one push of the pair. -/
theorem pushStoresPair : Obligations.PushStoresPair := by
  intro i rp s hasm
  obtain ⟨-, -, -, pattern⟩ := encodingFollowsFieldPatterns
  have hbytes := pattern i
  rw [hasm] at hbytes
  have hexec : exec i s = advance 1 (s.push16 (s.pair rp)) := by rw [exec_eq_meaning, hasm]; rfl
  have high : (s.push16 (s.pair rp)).memRead (s.sp - 1) = pushedHigh s rp :=
    (s.memRead_push16_high _).trans (s.hiByte_pair rp)
  have low : (s.push16 (s.pair rp)).memRead (s.sp - 2) = pushedLow s rp :=
    (s.memRead_push16_low _).trans (s.loByte_pair rp)
  exact ⟨hbytes, _, hexec, high, low, fun a => s.memRead_push16_of_ne _, rfl⟩

/-! POP (R222, R223) -/

/-- Written to PSW, a word puts its high byte in A and bits 7, 6, 4, 2, 0 of its low byte in the flags; `AC_LOADED_BY_POP_PSW` is true. -/
theorem State.setPair_psw_joinBytes (s : State) (hi lo : Byte) :
    s.setPair .psw (joinBytes hi lo) =
      { s with
        a := hi
        flags := { s := lo.getLsbD 7, z := lo.getLsbD 6, ac := lo.getLsbD 4, p := lo.getLsbD 2, cy := lo.getLsbD 0 } } := by
  simp only [State.setPair, hiByte_joinBytes, loByte_joinBytes, unpackPSW, Config.acLoadedByPopPSW, Bool.true_and]

/-- Settles O35: each POP writes the word at SP to its pair, whose registers take the two bytes. -/
theorem popLoadsPair : Obligations.PopLoadsPair := by
  refine fun s => ⟨rfl, rfl, rfl, rfl, ?bc, ?de, ?hl, ?psw⟩
  case bc => exact congrArg (advance 1) (s.dropTop.setPair_bc_joinBytes (s.memRead (s.sp + 1)) (s.memRead s.sp))
  case de => exact congrArg (advance 1) (s.dropTop.setPair_de_joinBytes (s.memRead (s.sp + 1)) (s.memRead s.sp))
  case hl => exact congrArg (advance 1) (s.dropTop.setPair_hl_joinBytes (s.memRead (s.sp + 1)) (s.memRead s.sp))
  case psw => exact congrArg (advance 1) (s.dropTop.setPair_psw_joinBytes (s.memRead (s.sp + 1)) (s.memRead s.sp))

/-! XTHL and SPHL (R224, R225) -/

/-- What one XTHL does: the word written at SP is HL, and the word that was read there goes to HL. -/
theorem exec_xthl (s : State) :
    ∃ t, exec .xthl s = .next t ∧ t.memRead s.sp = s.l ∧ t.memRead (s.sp + 1) = s.h ∧
      (∀ a, a ≠ s.sp → a ≠ s.sp + 1 → t.memRead a = s.memRead a) ∧
      t = { s with
            mem := t.mem
            h := s.memRead (s.sp + 1)
            l := s.memRead s.sp
            pc := s.pc + 1
            result := .cont } := by
  have low : (s.memWrite16 s.sp s.hl).memRead s.sp = s.l :=
    (s.memRead_memWrite16_low s.sp s.hl).trans (loByte_joinBytes s.h s.l)
  have high : (s.memWrite16 s.sp s.hl).memRead (s.sp + 1) = s.h :=
    (s.memRead_memWrite16_high s.sp s.hl).trans (hiByte_joinBytes s.h s.l)
  have hexec := congrArg (advance 1)
    ((s.memWrite16 s.sp s.hl).setPair_hl_joinBytes (s.memRead (s.sp + 1)) (s.memRead s.sp))
  exact ⟨_, hexec, low, high, fun a => s.memRead_memWrite16_of_ne s.hl, rfl⟩

/-- The second XTHL exchanges back what the first one exchanged. -/
theorem execAll_xthl_xthl (s : State) :
    ∃ u, execAll [.xthl, .xthl] s = .next u ∧ (∀ a, u.memRead a = s.memRead a) ∧
      u = { s with mem := u.mem, pc := s.pc + 1 + 1, result := .cont } := by
  obtain ⟨t, ht, tlow, thigh, tothers, tframe⟩ := exec_xthl s
  obtain ⟨u, hu, ulow, uhigh, uothers, uframe⟩ := exec_xthl t
  have tsp : t.sp = s.sp := by rw [tframe]
  have th : t.h = s.memRead (s.sp + 1) := by rw [tframe]
  have tl : t.l = s.memRead s.sp := by rw [tframe]
  rw [tsp] at ulow uhigh uothers uframe
  refine ⟨u, ?run, fun a => ?reads, ?frame⟩
  case run => simp only [execAll, ht, hu]
  case reads =>
    by_cases atLow : a = s.sp
    · rw [atLow, ulow, tl]
    · by_cases atHigh : a = s.sp + 1
      · rw [atHigh, uhigh, th]
      · rw [uothers a atLow atHigh, tothers a atLow atHigh]
  case frame =>
    rw [tlow, thigh, tframe] at uframe
    exact uframe

/-- Settles O37, from what XTHL does once and twice. -/
theorem xthlAndSphl : Obligations.XthlAndSphl := fun s =>
  ⟨rfl, rfl, exec_xthl s, execAll_xthl_xthl s, advance_eq 1 _⟩

/-! EI, DI and HLT (R226, R227, R228) -/

/-- Settles O38: EI and DI end like any other instruction with INTE written, and HLT ends with result Halted in place of Continue. -/
theorem interruptEnableAndHalt : Obligations.InterruptEnableAndHalt := fun _ =>
  ⟨rfl, rfl, rfl, advance_eq 1 _, advance_eq 1 _, rfl⟩

/-! The opcodes without a defined case (R231, R232, R233) -/

/-- Settles O39: an instruction that reads as unimplemented has that opcode as its one byte, and raises it in every state
(`exec_eq_unimplemented_iff`). -/
theorem unimplementedOpcodesStop : Obligations.UnimplementedOpcodesStop := by
  refine ⟨fun i op s hasm => ?stops, rfl⟩
  case stops =>
    obtain ⟨-, -, -, pattern⟩ := encodingFollowsFieldPatterns
    have hbytes := pattern i
    rw [hasm] at hbytes
    exact ⟨hbytes, (exec_eq_unimplemented_iff i s op).2 hasm⟩

end Sys2Proof.Machine
end

section
/-! Proofs about the interrupt operation (spec/60_exceptions.md R252, R257, R258). What it answers in each of its three cases is said by
`interrupt_taken`, `interrupt_ignored` and `interrupt_invalid`; the bytes of an entry are those of one push of PC. -/

namespace Sys2Proof.Machine

/-- A taken interrupt pushes PC, goes to its vector and clears INTE, and changes nothing else (R258). -/
theorem interrupt_taken_effect {n : Nat} {s : State} (hn : n < Config.vectorCount) (hi : s.inte = true) :
    ∃ t, interrupt n s = .next t ∧
      (t.memRead (s.sp - 1)).toNat = s.pc.toNat / 256 ∧ (t.memRead (s.sp - 2)).toNat = s.pc.toNat % 256 ∧
      (∀ a, a ≠ s.sp - 1 → a ≠ s.sp - 2 → t.memRead a = s.memRead a) ∧
      t.pc.toNat = 8 * n ∧
      t = { s with mem := t.mem, sp := s.sp - 2, pc := t.pc, inte := false } := by
  have high : ((s.push16 s.pc).memRead (s.sp - 1)).toNat = s.pc.toNat / 256 := by
    rw [State.memRead_push16_high, hiByte_toNat]
  have low : ((s.push16 s.pc).memRead (s.sp - 2)).toNat = s.pc.toNat % 256 := by
    rw [State.memRead_push16_low, loByte_toNat]
  exact ⟨_, interrupt_taken hn hi, high, low, fun a => s.memRead_push16_of_ne s.pc, vectorAddress_toNat hn, rfl⟩

/-- Settles O55: one clause per case of the operation, the vector's range checked before INTE (decision D13). -/
theorem interruptOperation : Obligations.InterruptOperation := by
  refine fun n s => ⟨fun hn hi => ?taken, fun hn hi => ?masked, fun hn => ?outOfRange⟩
  case taken => exact interrupt_taken_effect (Nat.lt_succ_of_le hn) hi
  case masked => exact interrupt_ignored (Nat.lt_succ_of_le hn) hi
  case outOfRange => exact interrupt_invalid s (Nat.not_lt_of_le hn)

end Sys2Proof.Machine
end

section
/-! Proofs about reset (spec/70_reset_and_hazards.md R280; decision D12). The reset operation on any state and the state after reset at
power-up are two definitions; that both hold the three values of `RESET_STATE` is what the statement says. -/

namespace Sys2Proof.Machine

/-- The whole state after the reset operation, in the values of R280: three pieces written, the rest the old state's. -/
theorem State.applyReset_eq (s : State) :
    s.applyReset = { s with pc := 0x0000, inte := false, flags := { s.flags with ac := false } } := rfl

/-- Settles O59: the operation always completes, with the state of `State.applyReset_eq`; the reset state has the three values by
definition. -/
theorem resetWritesThreePiecesOfState : Obligations.ResetWritesThreePiecesOfState := by
  refine ⟨fun s => ?operation, ?pc, ?inte, ?ac⟩
  case operation => exact congrArg Host.Outcome.next s.applyReset_eq
  case pc => exact (rfl : Config.resetPC = 0x0000)
  case inte => exact (rfl : Config.resetINTE = false)
  case ac => exact (rfl : Config.resetAC = false)

end Sys2Proof.Machine
end

section
/-! Proofs about decoding and encoding, continued (spec/30_encoding.md R71 to R84). The opcode byte names a format, and each of the four
formats has one law of decoding (`decode_i0`, `decode_i1`, `decode_i2`, `decode_unimpl`), so that the bytes of an instruction decode by
the law of its format. The other direction reads the cell of the opcode byte (`opcodeForm_encodesAs`). That every well-formed assembler
term names an instruction is read off the map, at the opcode byte that the term's field pattern says. -/

namespace Sys2Proof.Machine

open Sys2Proof.Certificates

/-! Decoding by format (R71, R76, R80) -/

theorem decode_i0 {op : Byte} {i : Instr} (h : opcodeForm op = .i0 i) (rest : List Byte) :
    decode (op :: rest) = .ok (i, rest) := by
  simp only [decode, h]

theorem decode_i1 {op : Byte} {mk : Byte → Instr} (h : opcodeForm op = .i1 mk) (d8 : Byte) (rest : List Byte) :
    decode (op :: d8 :: rest) = .ok (mk d8, rest) := by
  simp only [decode, h]

/-- The word of a 3-byte instruction is put together from the two bytes it was taken apart into. -/
theorem decode_i2 {op : Byte} {mk : Word → Instr} (h : opcodeForm op = .i2 mk) (w : Word) (rest : List Byte) :
    decode (op :: (wordBytes w ++ rest)) = .ok (mk w, rest) := by
  simp only [decode, h, wordBytes, List.cons_append, List.nil_append, joinBytes_hi_lo]

theorem decode_unimpl {op : Byte} {i : Instr} (h : opcodeForm op = .unimpl i) (rest : List Byte) :
    decode (op :: rest) = .ok (i, rest) := by
  simp only [decode, h]

/-- Settles O1, by the format of the instruction: two bytes, three bytes, one byte of an opcode without a defined case, one byte. -/
theorem decodeOfEncodeIsIdentity : Obligations.DecodeOfEncodeIsIdentity := by
  intro i rest
  cases i with
  | mviB d | mviC d | mviD d | mviE d | mviH d | mviL d | mviM d | mviA d
  | adi d | aci d | sui d | sbi d | ani d | xri d | ori d | cpi d => exact decode_i1 rfl d rest
  | lxiB w | lxiD w | lxiH w | lxiSP w | shld w | lhld w | sta w | lda w | jmp w | call w
  | jnz w | jz w | jnc w | jc w | jpo w | jpe w | jp w | jm w
  | cnz w | cz w | cnc w | cc w | cpo w | cpe w | cp w | cm w => exact decode_i2 rfl w rest
  | outPort | inPort | unimplCB | unimplD9 | unimplDD | unimplED | unimplFD => exact decode_unimpl rfl rest
  | _ => exact decode_i0 rfl rest

/-! The other direction, and totality (R77, R79) -/

@[simp] theorem wordBytes_joinBytes (hi lo : Byte) : wordBytes (joinBytes hi lo) = [lo, hi] := by
  rw [wordBytes, loByte_joinBytes, hiByte_joinBytes]

/-- What the decoder answers is encoded in the bytes it read. -/
theorem encode_append_of_decode {bs rest : List Byte} {i : Instr} (h : decode bs = .ok (i, rest)) : encode i ++ rest = bs := by
  rcases bs with _ | ⟨op, tail⟩
  · cases h
  · have cell := opcodeForm_encodesAs op
    rw [decode] at h
    generalize opcodeForm op = f at cell h
    cases f with
    | i0 j => cases h; simp [cell.1]
    | unimpl j => cases h; simp [cell.1]
    | i1 mk =>
      rcases tail with _ | ⟨b1, tail⟩
      · cases h
      · cases h; simp [(cell b1).1]
    | i2 mk =>
      rcases tail with _ | ⟨b1, _ | ⟨b2, tail⟩⟩
      · cases h
      · cases h
      · cases h; simp [(cell (joinBytes b2 b1)).1]

/-- Decoding from an opcode byte succeeds exactly where as many bytes are there as its length asks for. -/
theorem exists_decode_cons_iff (op : Byte) (tail : List Byte) :
    (∃ i rest, decode (op :: tail) = .ok (i, rest)) ↔ opcodeLength op ≤ (op :: tail).length := by
  rw [decode, opcodeLength]
  cases opcodeForm op with
  | i0 j => simp [Form.length]
  | unimpl j => simp [Form.length]
  | i1 mk => rcases tail with _ | ⟨b1, tail⟩ <;> simp [Form.length]
  | i2 mk => rcases tail with _ | ⟨b1, _ | ⟨b2, tail⟩⟩ <;> simp [Form.length]

/-- Settles O2: a list without an opcode byte decodes to nothing, and the rest is said of a list with one. -/
theorem encodeOfDecodeIsBytesRead : Obligations.EncodeOfDecodeIsBytesRead := by
  refine fun bs => ⟨fun i rest => encode_append_of_decode, ?_⟩
  cases bs with
  | nil => simp [decode]
  | cons op tail => simp [exists_decode_cons_iff]

/-- Settles O3: each word decodes by the cell of its opcode byte. -/
theorem wordsDecodeToTheirInstructions : Obligations.WordsDecodeToTheirInstructions :=
  ⟨rfl, rfl, rfl, rfl, rfl, rfl, rfl, rfl, rfl⟩

/-- Settles O5, over the 256 opcode bytes. -/
theorem lengthIsGivenByOpcodeByte : Obligations.LengthIsGivenByOpcodeByte := by
  unfold Obligations.LengthIsGivenByOpcodeByte
  decide +kernel

/-! Every well-formed assembler term names an instruction (R83, R84) -/

/-- The instruction at an opcode byte, with the operand byte `d8` where it has one. -/
def atOpcode (op : Byte) (d8 : Byte := 0) : Instr := (opcodeForm op).build d8 0

/-- The instruction at an opcode byte, with the operand word `w` where it has one. -/
def atOpcodeWord (op : Byte) (w : Word) : Instr := (opcodeForm op).build (loByte w) (hiByte w)

/-- Every assembler term that the restrictions allow is the reading of the instruction at the opcode of its field pattern. -/
theorem exists_asm_eq {x : Asm} (hx : x.wellFormed = true) : ∃ i : Instr, i.asm = x := by
  cases x with
  | mov dst src =>
    refine ⟨atOpcode (0b01#2 ++ dst.code ++ src.code), ?_⟩
    cases dst with
    | r dst =>
      cases src with
      | r src => cases dst <;> cases src <;> rfl
      | m => cases dst <;> rfl
    | m =>
      cases src with
      | r src => cases src <;> rfl
      | m => cases hx
  | mvi dst d8 =>
    refine ⟨atOpcode (0b00#2 ++ dst.code ++ 0b110#3) d8, ?_⟩
    cases dst with
    | r dst => cases dst <;> rfl
    | m => rfl
  | alu op src =>
    refine ⟨atOpcode (0b10#2 ++ op.code ++ src.code), ?_⟩
    cases src with
    | r src => cases op <;> cases src <;> rfl
    | m => cases op <;> rfl
  | aluI op d8 => exact ⟨atOpcode (0b11#2 ++ op.code ++ 0b110#3) d8, by cases op <;> rfl⟩
  | inr dst =>
    refine ⟨atOpcode (0b00#2 ++ dst.code ++ 0b100#3), ?_⟩
    cases dst with
    | r dst => cases dst <;> rfl
    | m => rfl
  | dcr dst =>
    refine ⟨atOpcode (0b00#2 ++ dst.code ++ 0b101#3), ?_⟩
    cases dst with
    | r dst => cases dst <;> rfl
    | m => rfl
  | lxi rp d16 =>
    refine ⟨atOpcodeWord (0b00#2 ++ rp.code ++ 0b0001#4) d16, ?_⟩
    cases rp with
    | psw => cases hx
    | _ => exact congrArg (Asm.lxi _) (joinBytes_hi_lo d16)
  | inx rp =>
    refine ⟨atOpcode (0b00#2 ++ rp.code ++ 0b0011#4), ?_⟩
    cases rp with
    | psw => cases hx
    | _ => rfl
  | dcx rp =>
    refine ⟨atOpcode (0b00#2 ++ rp.code ++ 0b1011#4), ?_⟩
    cases rp with
    | psw => cases hx
    | _ => rfl
  | dad rp =>
    refine ⟨atOpcode (0b00#2 ++ rp.code ++ 0b1001#4), ?_⟩
    cases rp with
    | psw => cases hx
    | _ => rfl
  | ldax rp =>
    refine ⟨atOpcode (0b00#2 ++ rp.code ++ 0b1010#4), ?_⟩
    cases rp with
    | bc | de => rfl
    | _ => cases hx
  | stax rp =>
    refine ⟨atOpcode (0b00#2 ++ rp.code ++ 0b0010#4), ?_⟩
    cases rp with
    | bc | de => rfl
    | _ => cases hx
  | push rp =>
    refine ⟨atOpcode (0b11#2 ++ rp.code ++ 0b0101#4), ?_⟩
    cases rp with
    | sp => cases hx
    | _ => rfl
  | pop rp =>
    refine ⟨atOpcode (0b11#2 ++ rp.code ++ 0b0001#4), ?_⟩
    cases rp with
    | sp => cases hx
    | _ => rfl
  | jcc cond a16 =>
    exact ⟨atOpcodeWord (0b11#2 ++ cond.code ++ 0b010#3) a16, by cases cond <;> exact congrArg (Asm.jcc _) (joinBytes_hi_lo a16)⟩
  | ccc cond a16 =>
    exact ⟨atOpcodeWord (0b11#2 ++ cond.code ++ 0b100#3) a16, by cases cond <;> exact congrArg (Asm.ccc _) (joinBytes_hi_lo a16)⟩
  | rcc cond => exact ⟨atOpcode (0b11#2 ++ cond.code ++ 0b000#3), by cases cond <;> rfl⟩
  | rst n =>
    refine ⟨atOpcode (0b11#2 ++ BitVec.ofNat 3 n ++ 0b111#3), ?_⟩
    have hn : n < 8 := of_decide_eq_true hx
    interval_cases n <;> rfl
  | unimplemented op =>
    have hop := (isUnimplementedForm_opcodeForm op).trans hx
    exact ⟨atOpcode op, (asm_build_unimplemented_iff (opcodeForm_encodesAs op) 0 0 op).2 ⟨hop, rfl⟩⟩
  | lda a16 => exact ⟨.lda a16, rfl⟩
  | sta a16 => exact ⟨.sta a16, rfl⟩
  | lhld a16 => exact ⟨.lhld a16, rfl⟩
  | shld a16 => exact ⟨.shld a16, rfl⟩
  | jmp a16 => exact ⟨.jmp a16, rfl⟩
  | call a16 => exact ⟨.call a16, rfl⟩
  | xchg => exact ⟨.xchg, rfl⟩
  | daa => exact ⟨.daa, rfl⟩
  | rlc => exact ⟨.rlc, rfl⟩
  | rrc => exact ⟨.rrc, rfl⟩
  | ral => exact ⟨.ral, rfl⟩
  | rar => exact ⟨.rar, rfl⟩
  | cma => exact ⟨.cma, rfl⟩
  | cmc => exact ⟨.cmc, rfl⟩
  | stc => exact ⟨.stc, rfl⟩
  | ret => exact ⟨.ret, rfl⟩
  | pchl => exact ⟨.pchl, rfl⟩
  | xthl => exact ⟨.xthl, rfl⟩
  | sphl => exact ⟨.sphl, rfl⟩
  | ei => exact ⟨.ei, rfl⟩
  | di => exact ⟨.di, rfl⟩
  | hlt => exact ⟨.hlt, rfl⟩
  | nop => exact ⟨.nop, rfl⟩

/-- Settles O7: both directions go row by row, the second at the opcode that the field pattern of the term says. -/
theorem assemblerTermsAreTheInstructions : Obligations.AssemblerTermsAreTheInstructions :=
  ⟨asm_wellFormed, fun _ => exists_asm_eq⟩

end Sys2Proof.Machine
end

section
/-! Proofs about which instructions write what (spec/10_state.md R14, R16, R18, and the pseudocode of the families). For each of SP, PC,
the flags and the registers one lemma says what the state after a meaning holds, by the shape of the instruction; that an operand write
and a pair write leave SP, PC and the flags alone, and which registers they leave, is said once. -/

namespace Sys2Proof.Machine

open Sys2Proof.Certificates

/-! What an operand write and a pair write leave alone -/

theorem State.writeOperand_sp (s : State) (o : Operand) (v : Byte) : (s.writeOperand o v).sp = s.sp := by
  cases o with
  | r r => exact s.setReg_sp r v
  | m => rfl

theorem State.writeOperand_pc (s : State) (o : Operand) (v : Byte) : (s.writeOperand o v).pc = s.pc := by
  cases o with
  | r r => exact s.setReg_pc r v
  | m => rfl

theorem State.writeOperand_flags (s : State) (o : Operand) (v : Byte) : (s.writeOperand o v).flags = s.flags := by
  cases o with
  | r r => exact s.setReg_flags r v
  | m => rfl

/-- A pair that is not PSW holds no flag. -/
theorem State.setPair_flags (s : State) {rp : PairName} (h : rp.notPSW = true) (v : Word) : (s.setPair rp v).flags = s.flags := by
  cases rp with
  | psw => cases h
  | _ => rfl

/-! SP (R14) -/

/-- Settles O48, by the shape of the instruction. -/
theorem stackPointerWriters : Obligations.StackPointerWriters := by
  intro i s t h
  have hx := asm_wellFormed i
  rw [exec_eq_meaning] at h
  unfold spAfter
  generalize i.asm = x at hx h ⊢
  cases x with
  | mov dst src | mvi dst d8 => cases h; exact State.writeOperand_sp ..
  | inr dst | dcr dst => cases h; exact State.writeOperand_sp ..
  | alu op src | aluI op d8 => cases op <;> cases h <;> rfl
  | lxi rp d16 | inx rp | dcx rp => cases rp <;> cases h <;> rfl
  | jcc cond a16 => cases (jumpIf_eq cond a16 s).symm.trans h; rfl
  | ccc cond a16 =>
    replace h := (callIf_eq cond a16 s).symm.trans h
    show t.sp = if condTrue s.flags cond then s.sp - 2 else s.sp
    generalize condTrue s.flags cond = taken at h ⊢
    cases taken <;> cases h <;> rfl
  | rcc cond =>
    replace h := (returnIf_eq cond s).symm.trans h
    show t.sp = if condTrue s.flags cond then s.sp + 2 else s.sp
    generalize condTrue s.flags cond = taken at h ⊢
    cases taken <;> cases h <;> rfl
  | pop rp =>
    cases rp with
    | sp => cases hx
    | _ => cases h; rfl
  | unimplemented op => cases h
  | _ => cases h; rfl

/-! PC (R16) -/

/-- The number of bytes of an instruction, by its reading (R71). -/
def asmLength : Asm → Nat
  | .mvi _ _ | .aluI _ _ => 2
  | .lxi _ _ | .lda _ | .sta _ | .lhld _ | .shld _ | .jmp _ | .jcc _ _ | .call _ | .ccc _ _ => 3
  | _ => 1

theorem encode_length (i : Instr) : (encode i).length = asmLength i.asm := by
  cases i <;> rfl

/-- Settles O49, by the shape of the instruction. -/
theorem programCounterAfterEveryInstruction : Obligations.ProgramCounterAfterEveryInstruction := by
  intro i s t h
  rw [exec_eq_meaning] at h
  rw [encode_length]
  unfold transferTarget
  generalize i.asm = x at h ⊢
  cases x with
  | mov dst src => cases h; exact congrArg (· + 1) (State.writeOperand_pc ..)
  | mvi dst d8 => cases h; exact congrArg (· + 2) (State.writeOperand_pc ..)
  | inr dst | dcr dst => cases h; exact congrArg (· + 1) (State.writeOperand_pc ..)
  | alu op src | aluI op d8 => cases op <;> cases h <;> rfl
  | lxi rp d16 | inx rp | dcx rp | pop rp => cases rp <;> cases h <;> rfl
  | jcc cond a16 =>
    cases (jumpIf_eq cond a16 s).symm.trans h
    show _ = (if condTrue s.flags cond then some a16 else none).getD (s.pc + 3)
    cases condTrue s.flags cond <;> rfl
  | ccc cond a16 =>
    replace h := (callIf_eq cond a16 s).symm.trans h
    show t.pc = (if condTrue s.flags cond then some a16 else none).getD (s.pc + 3)
    generalize condTrue s.flags cond = taken at h ⊢
    cases taken <;> cases h <;> rfl
  | rcc cond =>
    replace h := (returnIf_eq cond s).symm.trans h
    show t.pc = (if condTrue s.flags cond then some s.top16 else none).getD (s.pc + 1)
    generalize condTrue s.flags cond = taken at h ⊢
    cases taken <;> cases h <;> rfl
  | unimplemented op => cases h
  | _ => cases h; rfl

/-! The flags (R18) -/

/-- What R18 lets an instruction do to Z, S, P and CY: from `f` to `g`. -/
def FlagsFollow (x : Asm) (f g : Flags) : Prop :=
  (writesZSP x = false → g.z = f.z ∧ g.s = f.s ∧ g.p = f.p) ∧ (writesCY x = false → g.cy = f.cy)

/-- An instruction that keeps the flags does nothing R18 forbids. -/
theorem flagsFollow_of_eq (x : Asm) {f g : Flags} (h : g = f) : FlagsFollow x f g := by
  subst h
  exact ⟨fun _ => ⟨rfl, rfl, rfl⟩, fun _ => rfl⟩

/-- Every meaning follows the table of R18. -/
theorem meaning_flagsFollow {x : Asm} (hx : x.wellFormed = true) {s t : State} (h : meaning x s = .next t) :
    FlagsFollow x s.flags t.flags := by
  cases x with
  | alu op src | aluI op d8 => exact ⟨nofun, nofun⟩
  | inr dst | dcr dst => cases h; exact ⟨nofun, fun _ => rfl⟩
  | dad rp | rlc | rrc | ral | rar | cmc | stc => cases h; exact ⟨fun _ => ⟨rfl, rfl, rfl⟩, nofun⟩
  | pop rp =>
    cases rp with
    | psw => exact ⟨nofun, nofun⟩
    | _ => cases h; exact flagsFollow_of_eq _ rfl
  | mov dst src | mvi dst d8 => cases h; exact flagsFollow_of_eq _ (State.writeOperand_flags ..)
  | lxi rp d16 | inx rp | dcx rp => cases h; exact flagsFollow_of_eq _ (State.setPair_flags _ hx _)
  | jcc cond a16 => cases (jumpIf_eq cond a16 s).symm.trans h; exact flagsFollow_of_eq _ rfl
  | ccc cond a16 =>
    replace h := (callIf_eq cond a16 s).symm.trans h
    split at h <;> cases h <;> exact flagsFollow_of_eq _ rfl
  | rcc cond =>
    replace h := (returnIf_eq cond s).symm.trans h
    split at h <;> cases h <;> exact flagsFollow_of_eq _ rfl
  | unimplemented op => cases h
  | _ => cases h; exact flagsFollow_of_eq _ rfl

/-- Settles O45: Z, S, P and CY from `meaning_flagsFollow`, AC from the rule of its writers (O46). -/
theorem flagsChangeOnlyByTheirWriters : Obligations.FlagsChangeOnlyByTheirWriters := by
  intro i s t h
  obtain ⟨zsp, cy⟩ := meaning_flagsFollow (asm_wellFormed i) ((exec_eq_meaning i s).symm.trans h)
  refine ⟨zsp, cy, fun hi => ?ac⟩
  case ac =>
    obtain ⟨notLogical, notPop⟩ := Bool.or_eq_false_iff.1 hi
    rw [auxiliaryCarryWriters.1 i s t h, notLogical, if_neg Bool.false_ne_true, if_neg (of_decide_eq_false notPop)]

/-! The registers -/

/-- A register is read whatever the rest of the state is. -/
theorem State.reg_frame (s : State) (sp pc : Word) (f : Flags) (inte : Bool) (m : Memory) (res : StepResult) (r : Reg) :
    ({ s with sp := sp, pc := pc, flags := f, inte := inte, mem := m, result := res } : State).reg r = s.reg r := by
  cases r <;> rfl

theorem State.reg_memWrite (s : State) (addr : Word) (v : Byte) (r : Reg) : (s.memWrite addr v).reg r = s.reg r := by
  cases r <;> rfl

theorem State.reg_memWrite16 (s : State) (addr v : Word) (r : Reg) : (s.memWrite16 addr v).reg r = s.reg r := by
  cases r <;> rfl

theorem State.reg_push16 (s : State) (v : Word) (r : Reg) : (s.push16 v).reg r = s.reg r := by
  cases r <;> rfl

theorem State.reg_dropTop (s : State) (r : Reg) : s.dropTop.reg r = s.reg r := by
  cases r <;> rfl

theorem State.reg_setReg_of_not_mem (s : State) {dst r : Reg} (v : Byte) (h : r ∉ [dst]) : (s.setReg dst v).reg r = s.reg r := by
  rw [State.reg_setReg, if_neg (Ne.symm (mt List.mem_singleton.2 h))]

theorem State.reg_withAlu_of_not_mem (s : State) {r : Reg} (res : Byte × Flags) (h : r ∉ [Reg.a]) :
    (s.withAlu res).reg r = s.reg r := by
  cases r with
  | a => exact absurd (List.mem_singleton_self _) h
  | _ => rfl

theorem State.reg_setReg_setReg_of_not_mem (s : State) {r₁ r₂ r : Reg} (v₁ v₂ : Byte) (h : r ∉ [r₁, r₂]) :
    ((s.setReg r₁ v₁).setReg r₂ v₂).reg r = s.reg r := by
  obtain ⟨h₁, h₂⟩ := not_or.1 (mt List.mem_cons.2 h)
  rw [State.reg_setReg_of_not_mem _ v₂ h₂, State.reg_setReg, if_neg (Ne.symm h₁)]

/-- A pair write leaves the registers the pair is not made of (R12). -/
theorem State.reg_setPair_of_not_mem (s : State) {rp : PairName} {r : Reg} (v : Word) (h : r ∉ pairRegs rp) :
    (s.setPair rp v).reg r = s.reg r := by
  cases rp with
  | bc | de | hl => exact (s.reg_setReg_setReg_of_not_mem (hiByte v) (loByte v) h :)
  | sp => exact s.reg_frame v ..
  | psw => exact s.reg_withAlu_of_not_mem (hiByte v, unpackPSW (loByte v)) h

/-- A meaning leaves the registers that are not its destinations. -/
theorem meaning_reg {x : Asm} {s t : State} {r : Reg} (h : meaning x s = .next t) (hr : r ∉ destinations x) :
    t.reg r = s.reg r := by
  cases x with
  | mov dst src | mvi dst d8 =>
    cases h
    cases dst with
    | r dst => exact (State.reg_frame (s.setReg dst _) ..).trans (s.reg_setReg_of_not_mem _ hr)
    | m => exact (State.reg_frame (s.memWrite s.hl _) ..).trans (s.reg_memWrite ..)
  | inr dst | dcr dst =>
    cases h
    cases dst with
    | r dst => exact (State.reg_frame (s.setReg dst _) ..).trans (s.reg_setReg_of_not_mem _ hr)
    | m => exact s.reg_frame ..
  | lda a16 | ldax rp | cma => cases h; exact (State.reg_frame (s.withAlu (_, s.flags)) ..).trans (s.reg_withAlu_of_not_mem _ hr)
  | rlc | rrc | ral | rar => cases h; exact (State.reg_frame (s.withAlu _) ..).trans (s.reg_withAlu_of_not_mem _ hr)
  | alu op src | aluI op d8 =>
    cases op with
    | cmp => cases h; exact s.reg_frame ..
    | _ => cases h; exact (State.reg_frame (s.withAlu _) ..).trans (s.reg_withAlu_of_not_mem _ hr)
  | lxi rp d16 | inx rp | dcx rp =>
    cases h
    exact (State.reg_frame (s.setPair rp _) ..).trans (s.reg_setPair_of_not_mem _ hr)
  | pop rp =>
    cases h
    exact (State.reg_frame (s.dropTop.setPair rp _) ..).trans
      ((State.reg_setPair_of_not_mem s.dropTop _ hr).trans (s.reg_dropTop r))
  | lhld a16 | dad rp =>
    cases h
    exact (State.reg_frame (s.setPair .hl _) ..).trans (s.reg_setPair_of_not_mem _ hr)
  | xthl =>
    cases h
    exact (State.reg_frame ((s.memWrite16 s.sp s.hl).setPair .hl _) ..).trans
      ((State.reg_setPair_of_not_mem _ _ hr).trans (s.reg_memWrite16 ..))
  | xchg =>
    cases h
    cases r with
    | h | l | d | e => exact absurd (by decide) hr
    | _ => rfl
  | sta a16 | stax rp => cases h; exact (State.reg_frame (s.memWrite _ _) ..).trans (s.reg_memWrite ..)
  | shld a16 => cases h; exact (State.reg_frame (s.memWrite16 _ _) ..).trans (s.reg_memWrite16 ..)
  | call a16 | rst n | push rp => cases h; exact (State.reg_frame (s.push16 _) ..).trans (s.reg_push16 ..)
  | jcc cond a16 => cases (jumpIf_eq cond a16 s).symm.trans h; exact s.reg_frame ..
  | ccc cond a16 =>
    replace h := (callIf_eq cond a16 s).symm.trans h
    split at h
    · cases h; exact (State.reg_frame (s.push16 _) ..).trans (s.reg_push16 ..)
    · cases h; exact s.reg_frame ..
  | rcc cond =>
    replace h := (returnIf_eq cond s).symm.trans h
    split at h <;> cases h <;> exact s.reg_frame ..
  | unimplemented op => cases h
  | _ => cases h; exact s.reg_frame ..

/-- Settles O50, from `meaning_reg`. -/
theorem registersChangeOnlyAsDestinations : Obligations.RegistersChangeOnlyAsDestinations :=
  fun i s _ _ h hr => meaning_reg ((exec_eq_meaning i s).symm.trans h) hr

end Sys2Proof.Machine
end

section
/-! Proofs about the memory an instruction reads and writes and about the result of the step before (spec/20_memory.md R43, R47, R55, R56;
spec/10_state.md R21). They rest on one lemma, `exec_withMemResult`: an instruction run with another memory, which agrees on its data
reads, and with another result of the step before, is the same run with its data writes done on that memory. With the memory as it is this
says what memory is after an instruction, and hence that its canonical form is kept. -/

namespace Sys2Proof.Machine

open Sys2Proof.Certificates

/-! An instruction run with another memory and after another result -/

/-- The state with another memory and another result of the step before. -/
def State.withMemResult (s : State) (m : Memory) (r : StepResult) : State := { s with mem := m, result := r }

/-- The state with another memory. -/
def State.withMem (s : State) (m : Memory) : State := { s with mem := m }

theorem State.pair_withMemResult (s : State) (rp : PairName) (m : Memory) (r : StepResult) :
    (s.withMemResult m r).pair rp = s.pair rp := by
  cases rp <;> rfl

/-- A register operand is read alike; the byte at HL is, where the two memories agree on it. -/
theorem State.readOperand_withMemResult (s : State) (o : Operand) (m : Memory) (r : StepResult)
    (reads : o = .m → m.read s.hl.toNat = s.memRead s.hl) : (s.withMemResult m r).readOperand o = s.readOperand o := by
  cases o with
  | r reg => cases reg <;> rfl
  | m => exact reads rfl

/-- A word is read alike where the two memories agree on its two bytes. -/
theorem State.memRead16_withMemResult (s : State) (a : Word) (m : Memory) (r : StepResult)
    (reads : ∀ b ∈ [a, a + 1], m.read b.toNat = s.memRead b) : (s.withMemResult m r).memRead16 a = s.memRead16 a :=
  congrArg₂ joinBytes (reads (a + 1) (by simp)) (reads a (by simp))

/-- The two bytes of HL written as a word are L and H. -/
theorem applyWrites_hl (s : State) (a : Word) (m : Memory) :
    applyWrites [(a, loByte s.hl), (a + 1, hiByte s.hl)] m = applyWrites [(a, s.l), (a + 1, s.h)] m := by
  rw [State.hl, loByte_joinBytes, hiByte_joinBytes]

/-- An instruction run with another memory that agrees on its data reads, and after another result, does the same, with its data writes
done on that memory. -/
theorem exec_withMemResult (i : Instr) (s : State) (m : Memory) (r : StepResult)
    (reads : ∀ a ∈ dataReads i s, m.read a.toNat = s.memRead a) :
    exec i (s.withMemResult m r) = mapNext (·.withMem (applyWrites (dataWrites i s) m)) (exec i s) := by
  rw [exec_eq_meaning, exec_eq_meaning]
  have hx := asm_wellFormed i
  unfold dataReads at reads
  unfold dataWrites
  generalize i.asm = x at hx reads ⊢
  cases x with
  | mov dst src =>
    have source := s.readOperand_withMemResult src m r fun h => by subst h; exact reads _ (List.mem_singleton_self _)
    cases dst with
    | r dst =>
      show advance 1 ((s.withMemResult m r).setReg dst ((s.withMemResult m r).readOperand src)) = _
      rw [source]
      cases dst <;> rfl
    | m =>
      cases src with
      | r src =>
        show advance 1 ((s.withMemResult m r).memWrite s.hl ((s.withMemResult m r).readOperand (.r src))) = _
        rw [source]
        rfl
      | m => cases hx
  | mvi dst d8 =>
    cases dst with
    | r dst => cases dst <;> rfl
    | m => rfl
  | lda a16 =>
    show advance 3 { s.withMemResult m r with a := m.read a16.toNat } = _
    rw [reads a16 (List.mem_singleton_self _)]
    rfl
  | lhld a16 =>
    show advance 3 ((s.withMemResult m r).setPair .hl ((s.withMemResult m r).memRead16 a16)) = _
    rw [s.memRead16_withMemResult a16 m r reads]
    rfl
  | shld a16 =>
    show storeHLDirect a16 (s.withMemResult m r) =
      mapNext (·.withMem (applyWrites [(a16, s.l), (a16 + 1, s.h)] m)) (storeHLDirect a16 s)
    rw [← applyWrites_hl]
    rfl
  | ldax rp =>
    show advance 1 { s.withMemResult m r with a := m.read ((s.withMemResult m r).pair rp).toNat } = _
    rw [State.pair_withMemResult, reads _ (List.mem_singleton_self _)]
    rfl
  | alu op src =>
    have source := s.readOperand_withMemResult src m r fun h => by subst h; exact reads _ (List.mem_singleton_self _)
    show aluWith op ((s.withMemResult m r).readOperand src) 1 (s.withMemResult m r) = _
    rw [source]
    cases op <;> rfl
  | aluI op d8 => cases op <;> rfl
  | inr dst =>
    cases dst with
    | r dst => cases dst <;> rfl
    | m =>
      show advance 1 { (s.withMemResult m r).memWrite s.hl (inc8 (m.read s.hl.toNat) s.flags).1 with
        flags := (inc8 (m.read s.hl.toNat) s.flags).2 } = _
      rw [reads _ (List.mem_singleton_self _)]
      rfl
  | dcr dst =>
    cases dst with
    | r dst => cases dst <;> rfl
    | m =>
      show advance 1 { (s.withMemResult m r).memWrite s.hl (dec8 (m.read s.hl.toNat) s.flags).1 with
        flags := (dec8 (m.read s.hl.toNat) s.flags).2 } = _
      rw [reads _ (List.mem_singleton_self _)]
      rfl
  | lxi rp _ | stax rp | inx rp | dcx rp | dad rp | push rp => cases rp <;> rfl
  | jcc cond a16 =>
    show jumpIf cond a16 (s.withMemResult m r) = mapNext _ (jumpIf cond a16 s)
    rw [jumpIf_eq, jumpIf_eq]
    rfl
  | ccc cond a16 =>
    show (if s.flags.cond cond then callTo a16 (s.withMemResult m r) else advance 3 (s.withMemResult m r)) =
      mapNext (·.withMem (applyWrites (if s.flags.cond cond then pushWrites s (s.pc + 3) else []) m))
        (if s.flags.cond cond then callTo a16 s else advance 3 s)
    split <;> rfl
  | ret =>
    show jump ((s.withMemResult m r).memRead16 s.sp) (s.withMemResult m r).dropTop = _
    rw [s.memRead16_withMemResult s.sp m r reads]
    rfl
  | rcc cond =>
    change ∀ a ∈ if s.flags.cond cond then popReads s else [], _ at reads
    show (if s.flags.cond cond then returnFromCall (s.withMemResult m r) else advance 1 (s.withMemResult m r)) =
      mapNext _ (if s.flags.cond cond then returnFromCall s else advance 1 s)
    split at reads
    case isTrue holds =>
      rw [if_pos holds, if_pos holds]
      show jump ((s.withMemResult m r).memRead16 s.sp) (s.withMemResult m r).dropTop = _
      rw [s.memRead16_withMemResult s.sp m r reads]
      rfl
    case isFalse fails => rw [if_neg fails, if_neg fails]; rfl
  | pop rp =>
    show advance 1 ((s.withMemResult m r).dropTop.setPair rp ((s.withMemResult m r).memRead16 s.sp)) = _
    rw [s.memRead16_withMemResult s.sp m r reads]
    cases rp <;> rfl
  | xthl =>
    show advance 1 (((s.withMemResult m r).memWrite16 s.sp s.hl).setPair .hl ((s.withMemResult m r).memRead16 s.sp)) =
      mapNext (·.withMem (applyWrites [(s.sp, s.l), (s.sp + 1, s.h)] m)) (exchangeHLStack s)
    rw [s.memRead16_withMemResult s.sp m r reads, ← applyWrites_hl]
    rfl
  | _ => rfl

/-! Memory after an instruction (R43, R47, R56) -/

/-- Memory after an instruction is memory before it with the data writes done in order. -/
theorem exec_mem {i : Instr} {s t : State} (h : exec i s = .next t) : t.mem = applyWrites (dataWrites i s) s.mem := by
  have same := exec_withMemResult i s s.mem s.result fun a _ => rfl
  rw [show s.withMemResult s.mem s.result = s from rfl, h] at same
  exact congrArg State.mem (Host.Outcome.next.inj same)

/-- A byte that a list of writes does not name reads as before. -/
theorem read_applyWrites_of_ne {ws : List (Word × Byte)} {a : Word} (h : ∀ w ∈ ws, w.1 ≠ a) (m : Memory) :
    (applyWrites ws m).read a.toNat = m.read a.toNat := by
  induction ws generalizing m with
  | nil => rfl
  | cons w rest ih =>
    obtain ⟨hw, hrest⟩ := List.forall_mem_cons.1 h
    have other : a.toNat ≠ w.1.toNat := fun e => hw (BitVec.eq_of_toNat_eq e.symm)
    rw [applyWrites, ih hrest, Memory.read_write, if_neg other]

/-- Settles O51, from `exec_mem`. -/
theorem memoryChangesOnlyByListedWrites : Obligations.MemoryChangesOnlyByListedWrites := by
  refine fun i s t h => ⟨exec_mem h, fun a ha => ?_⟩
  rw [State.memRead, exec_mem h]
  exact read_applyWrites_of_ne ha s.mem

/-- Settles O52: the run with the other memory is `exec_withMemResult`, after the same result. -/
theorem instructionsReadOnlyListedBytes : Obligations.InstructionsReadOnlyListedBytes := by
  intro i s t m reads h
  have other := exec_withMemResult i s m s.result reads
  rw [h] at other
  exact ⟨_, other, rfl, rfl⟩

/-! The canonical form of memory -/

/-- Writes at addresses of the memory keep the canonical form. -/
theorem wf_applyWrites (ws : List (Word × Byte)) {m : Memory} (hm : m.wf = true) : (applyWrites ws m).wf = true := by
  induction ws generalizing m with
  | nil => exact hm
  | cons w rest ih => exact ih (Memory.wf_write w.2 w.1.isLt hm)

/-- Settles O42: a step changes memory by data writes alone (`exec_mem`), and a write keeps the form. -/
theorem stepKeepsCanonicalMemory : Obligations.StepKeepsCanonicalMemory := by
  intro s t hs h
  rw [Inv, exec_mem h]
  exact wf_applyWrites _ hs

/-- A host write keeps the canonical form: it writes one byte of memory, or none. -/
theorem HostWrite.inv_apply (w : HostWrite) {s : State} (hs : Inv s) : Inv (w.apply s) := by
  cases w with
  | reg r v => exact State.wf_setReg r v hs
  | mem addr v => exact State.wf_memWrite addr v hs
  | _ => exact hs

/-- An operation that answers a next state keeps the canonical form. -/
theorem perform_inv {op : Operation} {s t : State} (hs : Inv s) (h : perform op s = .next t) : Inv t := by
  cases op with
  | step => exact stepKeepsCanonicalMemory s t hs h
  | interrupt n => exact interrupt_wf hs h
  | reset => cases h; exact hs
  | write w => cases h; exact w.inv_apply hs

/-- Every operation keeps the canonical form; one that fails leaves the state. -/
theorem stateAfter_inv (op : Operation) {s : State} (hs : Inv s) : Inv (stateAfter op s) := by
  unfold stateAfter
  split
  case h_1 t h => exact perform_inv hs h
  case h_2 => exact hs
  case h_3 => exact hs

/-- Settles O43, by induction on the schedule. -/
theorem everyRunKeepsCanonicalMemory : Obligations.EveryRunKeepsCanonicalMemory := by
  intro ops
  induction ops with
  | nil => exact fun s hs => hs
  | cons op rest ih => exact fun s hs => ih (stateAfter op s) (stateAfter_inv op hs)

/-- Settles O44: memory lists nothing there. -/
theorem resetHasCanonicalMemory : Obligations.ResetHasCanonicalMemory := State.reset_mem_wf

/-! The result of the step before (R21) -/

/-- An instruction does the same whatever the result of the step before was. -/
theorem exec_withResult (i : Instr) (s : State) (r : StepResult) : exec i { s with result := r } = exec i s := by
  have other := exec_withMemResult i s s.mem r fun a _ => rfl
  cases h : exec i s with
  | next t => rw [h, ← exec_mem h] at other; exact other
  | fault f => rw [h] at other; exact other
  | refused f => rw [h] at other; exact other

/-- A step does the same whatever the result of the step before was. -/
theorem step_withResult (s : State) (r : StepResult) : step { s with result := r } = step s := exec_withResult (fetch s) s r

/-- The interrupt operation leaves the result of the step before where it is, and does not read it. -/
theorem interrupt_withResult {n : Nat} {s t : State} (r : StepResult) (h : interrupt n s = .next t) :
    interrupt n { s with result := r } = .next { t with result := r } := by
  by_cases hn : n < Config.vectorCount
  · by_cases hi : s.inte = true
    · rw [interrupt_taken hn hi] at h
      cases h
      exact interrupt_taken hn hi
    · rw [interrupt_ignored hn (Bool.eq_false_iff.2 hi)] at h
      cases h
      exact interrupt_ignored hn (Bool.eq_false_iff.2 hi)
  · rw [interrupt_invalid s hn] at h
    cases h

/-- A step on HLT moves PC by one and reports Halted (R228). -/
theorem step_of_fetch_hlt {s : State} (h : fetch s = .hlt) : step s = .next { s with pc := s.pc + 1, result := .halted } := by
  rw [step, h]
  rfl

/-- Settles O53: after HLT the state is the one at the next instruction but for the result, which a step does not read. -/
theorem noHaltedLatch : Obligations.NoHaltedLatch := by
  refine ⟨step_withResult, fun n s t r => interrupt_withResult r, fun s t hfetch h => ?_⟩
  rw [step_of_fetch_hlt hfetch] at h
  cases h
  exact step_withResult { s with pc := s.pc + 1 } .halted

/-! A store onto the next instruction (R55) -/

/-- Settles O54: after the store the byte at PC is A, and the two after it are as they were. -/
theorem storeIntoNextInstructionIsExecuted : Obligations.StoreIntoNextInstructionIsExecuted := by
  intro s i rest hfetch hdecode
  have hstep : step s = .next { s.memWrite (s.pc + 3) s.a with pc := s.pc + 3, result := .cont } := by
    rw [step, hfetch]
    rfl
  refine ⟨_, hstep, rfl, stepRunsDecodedInstruction.1 _ i rest ?_⟩
  have stored : (s.memWrite (s.pc + 3) s.a).memRead (s.pc + 3) = s.a := by rw [State.memRead_memWrite, if_pos rfl]
  have second : (s.memWrite (s.pc + 3) s.a).memRead (s.pc + 3 + 1) = s.memRead (s.pc + 4) := by
    rw [State.memRead_memWrite, if_neg (addr_succ_ne _), BitVec.add_assoc]; rfl
  have third : (s.memWrite (s.pc + 3) s.a).memRead (s.pc + 3 + 2) = s.memRead (s.pc + 5) := by
    rw [State.memRead_memWrite, if_neg (by bv_omega), BitVec.add_assoc]; rfl
  show decode [(s.memWrite (s.pc + 3) s.a).memRead (s.pc + 3), (s.memWrite (s.pc + 3) s.a).memRead (s.pc + 3 + 1),
    (s.memWrite (s.pc + 3) s.a).memRead (s.pc + 3 + 2)] = .ok (i, rest)
  rw [stored, second, third, hdecode]

end Sys2Proof.Machine
end

section
/-! Proofs about the laws of the rotates (spec/43_logical_rotate.md R189 to R192, conflict C1). A list of rotates changes A and CY by the
composition of the functions of its members (`Rotates.cons`), so each law is a fact about the four functions on the 512 values of A and
CY. -/

namespace Sys2Proof.Machine

/-- The state with other values in A and CY, `n` one-byte instructions later. -/
def State.rotated (s : State) (v : Byte × Bool) (n : Nat) : State :=
  { s with a := v.1, flags := { s.flags with cy := v.2 }, pc := s.pc + BitVec.ofNat 16 n, result := .cont }

theorem State.rotated_rotated (s : State) (v w : Byte × Bool) (m n : Nat) : (s.rotated v m).rotated w n = s.rotated w (m + n) := by
  simp only [State.rotated, BitVec.add_assoc, BitVec.ofNat_add]

/-- The instruction changes A and CY by the function `f` of the two, and nothing else but PC and the result. -/
def Rotates (i : Instr) (f : Byte × Bool → Byte × Bool) : Prop :=
  ∀ s : State, exec i s = .next (s.rotated (f (s.a, s.flags.cy)) 1)

/-- The same of instructions run one after another. -/
def RotateAll (is : List Instr) (f : Byte × Bool → Byte × Bool) : Prop :=
  ∀ s : State, execAll is s = .next (s.rotated (f (s.a, s.flags.cy)) is.length)

theorem Rotates.single {i : Instr} {f : Byte × Bool → Byte × Bool} (hi : Rotates i f) : RotateAll [i] f := by
  intro s
  rw [execAll, hi s]
  rfl

/-- Rotates run one after another compose. -/
theorem Rotates.cons {i : Instr} {is : List Instr} {f g : Byte × Bool → Byte × Bool} (hi : Rotates i f) (his : RotateAll is g) :
    RotateAll (i :: is) (g ∘ f) := by
  intro s
  rw [execAll, hi s]
  exact (his _).trans (by rw [State.rotated_rotated, Nat.add_comm]; rfl)

/-- A rotate run a number of times is its function as many times. -/
theorem Rotates.replicate {i : Instr} {f : Byte × Bool → Byte × Bool} (hi : Rotates i f) (n : Nat) :
    RotateAll (List.replicate (n + 1) i) f^[n + 1] := by
  induction n with
  | zero => exact hi.single
  | succ n ih => exact hi.cons ih

/-- Rotates whose function is known at the A and CY of a state. -/
theorem RotateAll.execAll_eq {is : List Instr} {f : Byte × Bool → Byte × Bool} (h : RotateAll is f) {s : State} {v : Byte × Bool}
    (hv : f (s.a, s.flags.cy) = v) : execAll is s = .next (s.rotated v is.length) :=
  hv ▸ h s

/-! The four rotates, as `rotatesMoveOneBit` says what each does -/

/-- RLC on A and CY (R189). -/
def rlcStep (v : Byte × Bool) : Byte × Bool := (v.1.rotateLeft 1, v.1.getLsbD 7)

/-- RRC on A and CY (R190). -/
def rrcStep (v : Byte × Bool) : Byte × Bool := (v.1.rotateRight 1, v.1.getLsbD 0)

/-- RAL on A and CY (R191). -/
def ralStep (v : Byte × Bool) : Byte × Bool := ((v.1 ++ BitVec.ofBool v.2).extractLsb' 0 8, v.1.getLsbD 7)

/-- RAR on A and CY (R192). -/
def rarStep (v : Byte × Bool) : Byte × Bool := ((BitVec.ofBool v.2 ++ v.1).extractLsb' 1 8, v.1.getLsbD 0)

theorem rotates_step : Rotates .rlc rlcStep ∧ Rotates .rrc rrcStep ∧ Rotates .ral ralStep ∧ Rotates .rar rarStep := by
  refine ⟨fun s => ?rlc, fun s => ?rrc, fun s => ?ral, fun s => ?rar⟩
  all_goals obtain ⟨-, -, -, -, rlc, rrc, ral, rar⟩ := rotatesMoveOneBit s
  case rlc => exact rlc
  case rrc => exact rrc
  case ral => exact ral
  case rar => exact rar

/-! The laws of the four functions, over all values of A and CY -/

theorem rlcStep_eight : ∀ a c, rlcStep^[8] (a, c) = (a, a.getLsbD 0) := by decide +kernel
theorem rrcStep_eight : ∀ a c, rrcStep^[8] (a, c) = (a, a.getLsbD 7) := by decide +kernel
theorem ralStep_nine : ∀ a c, ralStep^[9] (a, c) = (a, c) := by decide +kernel
theorem rarStep_nine : ∀ a c, rarStep^[9] (a, c) = (a, c) := by decide +kernel
theorem rrcStep_rlcStep : ∀ a c, (rrcStep ∘ rlcStep) (a, c) = (a, a.getLsbD 7) := by decide +kernel
theorem rlcStep_rrcStep : ∀ a c, (rlcStep ∘ rrcStep) (a, c) = (a, a.getLsbD 0) := by decide +kernel
theorem rarStep_ralStep : ∀ a c, (rarStep ∘ ralStep) (a, c) = (a, c) := by decide +kernel
theorem ralStep_rarStep : ∀ a c, (ralStep ∘ rarStep) (a, c) = (a, c) := by decide +kernel

/-- Settles O28: each law is that of the function of its list of rotates. -/
theorem rotatesRestoreTheirOperand : Obligations.RotatesRestoreTheirOperand := by
  intro s
  obtain ⟨rlc, rrc, ral, rar⟩ := rotates_step
  exact ⟨(rlc.replicate 7).execAll_eq (rlcStep_eight ..), (rrc.replicate 7).execAll_eq (rrcStep_eight ..),
    (ral.replicate 8).execAll_eq (ralStep_nine ..), (rar.replicate 8).execAll_eq (rarStep_nine ..),
    (rlc.cons rrc.single).execAll_eq (rrcStep_rlcStep ..), (rrc.cons rlc.single).execAll_eq (rlcStep_rrcStep ..),
    (ral.cons rar.single).execAll_eq (rarStep_ralStep ..), (rar.cons ral.single).execAll_eq (ralStep_rarStep ..)⟩

end Sys2Proof.Machine
end

section
/-! Proofs about what a return and a POP take back (spec/44_control_transfer.md R202 to R206; spec/45_stack_io_machine.md R220 to R223). A
call and a PUSH are one push, which writes memory and SP alone; the word it stores is the one that a RET or a POP right after it takes,
with SP where it was before (`State.push16_frame`). -/

namespace Sys2Proof.Machine

open Sys2Proof.Certificates

/-- Of two instructions the second runs from where the first one ends. -/
theorem execAll_pair {i : Instr} {s t : State} (h : exec i s = .next t) (j : Instr) : execAll [i, j] s = exec j t := by
  simp only [execAll, h]
  cases exec j t <;> rfl

/-- A push writes memory and SP alone, and the word it stores is the one a pop would take. -/
theorem State.push16_frame (s : State) (v : Word) :
    ∃ m : Memory, s.push16 v = { s with mem := m, sp := s.sp - 2 } ∧
      ∀ (pc : Word) (inte : Bool) (r : StepResult),
        State.top16 { s with mem := m, sp := s.sp - 2, pc := pc, inte := inte, result := r } = v := by
  obtain ⟨-, -, -, frame, -, -, top, -⟩ := pushThenPopPrimitivesRoundTrip s v 0
  exact ⟨_, frame, fun _ _ _ => top⟩

/-- RET right after a push goes to the word pushed, with SP as it was, wherever the push was followed to. -/
theorem exec_ret_after_push16 (s : State) (v pc : Word) (inte : Bool) (r : StepResult) :
    exec .ret { s.push16 v with pc := pc, inte := inte, result := r } =
      .next { s with mem := (s.push16 v).mem, pc := v, inte := inte, result := .cont } := by
  obtain ⟨m, frame, top⟩ := s.push16_frame v
  rw [frame]
  refine (returnFromCall_eq _).trans ?_
  rw [top]
  show Host.Outcome.next { s with mem := m, sp := s.sp - 2 + 2, pc := v, inte := inte, result := .cont } = _
  rw [sub_two_add_two]

/-- Settles O33: every form that calls is one push (`callForm_sound`). -/
theorem callThenReturnResumes : Obligations.CallThenReturnResumes := by
  intro i s ret target bytes hform
  obtain ⟨-, -, hexec⟩ := callForm_sound hform
  have returns := exec_ret_after_push16 s (s.pc + BitVec.ofNat 16 bytes.length) target s.inte .cont
  exact ⟨_, (execAll_pair (hexec.trans (callThrough_eq ..)) .ret).trans returns, rfl, rfl, fun a => s.memRead_push16_of_ne _, rfl⟩

/-! PUSH, then POP -/

/-- A pair is read whatever memory, PC and the result are. -/
theorem State.pair_frame (s : State) (rp : PairName) (m : Memory) (pc : Word) (r : StepResult) :
    ({ s with mem := m, pc := pc, result := r } : State).pair rp = s.pair rp := by
  cases rp <;> rfl

theorem notPSW_of_ne {rp : PairName} (h : rp ≠ .psw) : rp.notPSW = true := by
  cases rp with
  | psw => exact absurd rfl h
  | _ => rfl

/-- A pair other than PSW reads back what was written to it; PSW would lose the padding of the status word. -/
theorem State.pair_setPair (s : State) {rp : PairName} (h : rp.notPSW = true) (v : Word) : (s.setPair rp v).pair rp = v := by
  cases rp with
  | psw => cases h
  | sp => rfl
  | _ => exact joinBytes_hi_lo v

theorem State.setPair_sp_of_notSP (s : State) {rp : PairName} (h : rp.notSP = true) (v : Word) : (s.setPair rp v).sp = s.sp := by
  cases rp with
  | sp => cases h
  | _ => rfl

/-- POP names no SP (R74). -/
theorem notSP_of_asm_pop {j : Instr} {rp : PairName} (hj : j.asm = .pop rp) : rp.notSP = true := by
  have hx := asm_wellFormed j
  rwa [hj] at hx

/-- Any pair that holds its value already, PSW too, is not changed by writing it. -/
theorem State.setPair_pair (s : State) (rp : PairName) : s.setPair rp (s.pair rp) = s := by
  cases rp with
  | sp => rfl
  | _ => simp [State.setPair]

/-- POP right after a PUSH writes the pair pushed, with SP as it was. -/
theorem execAll_push_pop {i j : Instr} {rp rp' : PairName} (hi : i.asm = .push rp) (hj : j.asm = .pop rp') (s : State) :
    execAll [i, j] s =
      .next { s.setPair rp' (s.pair rp) with mem := (s.push16 (s.pair rp)).mem, pc := s.pc + 2, result := .cont } := by
  have hx := notSP_of_asm_pop hj
  have hpush : exec i s = advance 1 (s.push16 (s.pair rp)) := by rw [exec_eq_meaning, hi]; rfl
  obtain ⟨m, frame, top⟩ := s.push16_frame (s.pair rp)
  rw [frame] at hpush ⊢
  rw [execAll_pair hpush, exec_eq_meaning, hj, meaning, popPair, top, ← show s.pc + 1 + 1 = s.pc + 2 from BitVec.add_assoc ..]
  show advance 1 (State.setPair { s with mem := m, sp := s.sp - 2 + 2, pc := s.pc + 1, result := .cont } rp' (s.pair rp)) = _
  rw [sub_two_add_two]
  cases rp' with
  | sp => cases hx
  | _ => rfl

/-- Settles O36: the pair popped into reads what was written to it (`State.pair_setPair`); the pair that was pushed holds it already
(`State.setPair_pair`). -/
theorem pushThenPopRestores : Obligations.PushThenPopRestores := by
  refine ⟨fun i j rp rp' s hi hj hpsw => ⟨_, execAll_push_pop hi hj s, ?pair, ?sp, ?flags⟩,
    fun i j rp s hi hj => ⟨_, execAll_push_pop hi hj s, ?same⟩⟩
  case pair => exact (State.pair_frame ..).trans (s.pair_setPair (notPSW_of_ne hpsw) _)
  case sp => exact s.setPair_sp_of_notSP (notSP_of_asm_pop hj) _
  case flags => exact s.setPair_flags (notPSW_of_ne hpsw) _
  case same => rw [State.setPair_pair]

end Sys2Proof.Machine
end

section
/-! Proofs about interrupts between instructions and about the jump to itself (spec/60_exceptions.md R251, R257 to R261, R265, R267;
spec/44_control_transfer.md R200). An interrupt entry is one push of PC, so RET after it is RET after a push (`exec_ret_after_push16`). On
a jump to itself a step, and an interrupt request where INTE is false, leave the state but for the result, and so does a schedule of
these. -/

namespace Sys2Proof.Machine

/-! RET and RST beside the interrupt (R258, R261) -/

/-- RET right after a taken interrupt goes back to where it came from. -/
theorem exec_ret_after_interrupt (n : Nat) (s : State) :
    exec .ret { s.push16 s.pc with pc := vectorAddress n, inte := false } =
      .next { s with mem := (s.push16 s.pc).mem, inte := false, result := .cont } :=
  exec_ret_after_push16 s s.pc (vectorAddress n) false s.result

/-- An interrupt operation that completes had a vector in range. -/
theorem lt_vectorCount_of_next {n : Nat} {s t : State} (h : interrupt n s = .next t) : n < Config.vectorCount := by
  by_contra hn
  rw [interrupt_invalid s hn] at h
  cases h

/-- Settles O57, from `exec_ret_after_interrupt`. -/
theorem interruptThenReturnResumes : Obligations.InterruptThenReturnResumes := by
  intro n s t hi h
  rw [interrupt_taken (lt_vectorCount_of_next h) hi] at h
  cases h
  exact ⟨_, exec_ret_after_interrupt n s, rfl, rfl, rfl, fun a => s.memRead_push16_of_ne _, rfl⟩

/-- A push stores the same bytes wherever PC is. -/
theorem State.push16_withPC (s : State) (pc v : Word) : State.push16 { s with pc := pc } v = { s.push16 v with pc := pc } := rfl

/-- RST run from PC - 1 pushes PC (R206). -/
theorem exec_rst_from_pred {i : Instr} {n : Nat} (hasm : i.asm = .rst n) (s : State) :
    exec i { s with pc := s.pc - 1 } = .next { s.push16 s.pc with pc := vectorAddress n, result := .cont } := by
  have hexec : exec i { s with pc := s.pc - 1 } = callThrough 1 (vectorAddress n) { s with pc := s.pc - 1 } := by
    rw [exec_eq_meaning, hasm]; rfl
  rw [hexec, callThrough_eq, State.push16_withPC, BitVec.sub_add_cancel]

/-- Settles O56: RST from PC - 1 leaves what the interrupt leaves (`exec_rst_from_pred`), but for INTE, which DI clears. -/
theorem interruptEqualsRestartThenDisable : Obligations.InterruptEqualsRestartThenDisable := by
  intro i n s hasm hi
  have hn : n < Config.vectorCount := by have hx := asm_wellFormed i; rw [hasm] at hx; exact of_decide_eq_true hx
  have taken := interrupt_taken hn hi
  have hrst := exec_rst_from_pred hasm s
  obtain ⟨m, frame, -⟩ := s.push16_frame s.pc
  rw [frame] at taken hrst
  refine ⟨_, _, taken, (execAll_pair hrst .di).trans (advance_eq 1 _), ?_⟩
  show _ = { s with mem := m, sp := s.sp - 2, pc := vectorAddress n + 1 - 1, inte := false }
  rw [BitVec.add_sub_cancel]

/-! An interrupt between steps (R251, R258, R259, R265) -/

/-- What a taken interrupt leaves, and that RET goes back from it. -/
theorem interrupt_taken_then_ret {n : Nat} {u t : State} (hn : n < Config.vectorCount) (hi : u.inte = true)
    (h : interrupt n u = .next t) :
    t.pc.toNat = 8 * n ∧ t.sp = u.sp - 2 ∧ t.inte = false ∧
      (t.memRead (u.sp - 1)).toNat = u.pc.toNat / 256 ∧ (t.memRead (u.sp - 2)).toNat = u.pc.toNat % 256 ∧
      ∃ v, exec .ret t = .next v ∧ v.pc = u.pc ∧ v.sp = u.sp := by
  obtain ⟨t', ht', high, low, -, hpc, -⟩ := interrupt_taken_effect hn hi
  cases ht'.symm.trans h
  cases (interrupt_taken hn hi).symm.trans h
  exact ⟨hpc, rfl, rfl, high, low, _, exec_ret_after_interrupt n u, rfl, rfl⟩

/-- Settles O58: the interrupt is taken in the state the step left (`interrupt_taken_then_ret`); what a step on HLT and on an unimplemented
opcode leaves is `step_of_fetch_hlt` and the rule of the result (O41); and the first of two requests clears INTE. -/
theorem interruptBetweenStepsResumes : Obligations.InterruptBetweenStepsResumes := by
  have inRange {n : Nat} (hn : n ≤ 7) : n < Config.vectorCount := Nat.lt_succ_of_le hn
  refine ⟨fun n s u t hn hu hi ht => ?resumes, fun s hfetch => ?hlt, fun s hop => ?unimplemented, fun n m s hn hi => ?second⟩
  case resumes =>
    have taken := interrupt_taken (inRange hn) hi
    rw [performAll_cons, hu, performAll_cons, stateAfter_of_next (op := .interrupt n) taken, performAll_nil] at ht
    exact interrupt_taken_then_ret (inRange hn) hi (ht ▸ taken)
  case hlt =>
    have hstep := step_of_fetch_hlt hfetch
    rw [operationResult, hstep, stateAfter_of_next (op := .step) hstep]
    exact ⟨rfl, rfl, rfl⟩
  case unimplemented =>
    have hstep := (stepResultIsGivenByOpcode s).1 hop
    rw [operationResult, hstep, stateAfter_of_fault (op := .step) hstep]
    exact ⟨rfl, rfl⟩
  case second =>
    rw [performAll_cons, performAll_cons, performAll_cons, stateAfter_interrupt_taken (inRange hn) hi,
      stateAfter_interrupt_masked m rfl]

/-! The jump to itself (R200, R267) -/

/-- A step on a jump to itself changes nothing but the result, whatever the result before was. -/
theorem step_of_fetch_jmp_self {s : State} (h : fetch s = .jmp s.pc) (r : StepResult) :
    step { s with result := r } = .next { s with result := .cont } := by
  show exec (fetch s) { s with result := r } = _
  rw [h]
  rfl

/-- The operations that leave a jump to itself: steps, and interrupt requests where INTE is false. -/
theorem operation_of_fetch_jmp_self {s : State} (h : fetch s = .jmp s.pc) {op : Operation}
    (hop : op = .step ∨ s.inte = false ∧ ∃ n, op = .interrupt n) (r : StepResult) :
    (operationResult op { s with result := r } = none ∨ operationResult op { s with result := r } = some .cont) ∧
      ∃ r', stateAfter op { s with result := r } = { s with result := r' } := by
  obtain rfl | ⟨hi, n, rfl⟩ := hop
  · have hstep := step_of_fetch_jmp_self h r
    exact ⟨.inr (by rw [operationResult, hstep]; rfl), .cont, stateAfter_of_next hstep⟩
  · exact ⟨.inl rfl, r, stateAfter_interrupt_masked n hi⟩

/-- No schedule of such operations leaves a jump to itself, or ends a run there. -/
theorem schedule_of_fetch_jmp_self {s : State} (h : fetch s = .jmp s.pc) {ops : List Operation}
    (hops : ∀ op ∈ ops, op = .step ∨ s.inte = false ∧ ∃ n, op = .interrupt n) (r : StepResult) :
    runEnd ops { s with result := r } = none ∧ ∃ r', performAll ops { s with result := r } = { s with result := r' } := by
  induction ops generalizing r with
  | nil => exact ⟨rfl, r, rfl⟩
  | cons op rest ih =>
    obtain ⟨hop, hrest⟩ := List.forall_mem_cons.1 hops
    obtain ⟨hresult, r', hafter⟩ := operation_of_fetch_jmp_self h hop r
    rw [runEnd_cons hresult, performAll_cons, hafter]
    exact ih hrest r'

/-- Settles O60, by induction on the schedule (`schedule_of_fetch_jmp_self`). -/
theorem jumpToItselfNeverEnds : Obligations.JumpToItselfNeverEnds := by
  refine fun s h => ⟨step_of_fetch_jmp_self h s.result, fun n => ?endless, fun ops hops => schedule_of_fetch_jmp_self h hops s.result⟩
  case endless =>
    refine (schedule_of_fetch_jmp_self h (fun op hop => .inl ?_) s.result).1
    obtain ⟨k, -, hk⟩ := List.mem_map.1 hop
    exact hk.symm

end Sys2Proof.Machine
end
